-- ==== Sys2Proof/Word.lean ====
section
/-! DEFINITION. The plain number types of the Wolzane 1624: link octets and story cells. -/

namespace Sys2Proof

/-- One byte on the control link (R183, R184). -/
abbrev Octet := BitVec 8

/-- One cell of story text: an office value 0–127 or the garble mark 128 (R3). -/
abbrev Cell := Nat

/-- A reading of the monotonic seconds counter, 0 to 2^32 − 1 (R80). -/
abbrev Seconds := BitVec 32

end Sys2Proof
end

