-- ==== Sys2Proof/Syntax.lean ====
section
/-! DEFINITION. The commands of the Wolzane 1624: one constructor of `Instr` for each row of
spec/opcode_table.json, with the operands the row's rule names. The requests of R186 carry the tag of their frame
and their fields as the host sent them, in range or not; the range checks belong to the meanings. The events carry
the line, the desk, or what the pin showed. -/

namespace Sys2Proof

/-- The level of a line or desk pin: mark is the rest level, space the other (R19, R123). -/
inductive Level where
  | mark
  | space
  deriving DecidableEq, Repr

/-- One setting of a PORT SETUP (R190): a field identifier and its value. `num` holds the value of a numeric or
enumerated field, `text` the codes of a string field. For an identifier that names no field, `text` holds the rest
of the body, since no rule gives the length of its value. -/
structure Setting where
  field : Nat
  num   : Nat
  text  : List Nat
  deriving DecidableEq, Repr

/-- One entry of a TABLE LOAD's run: a kind byte and a code byte (R6, R184). -/
structure RawEntry where
  kind : Nat
  code : Nat
  deriving DecidableEq, Repr

/-- What a ROUTE SET asks for (R100): an entry made unused, an entry with a pattern of two codes and a destination
set, or the default set. A destination set is given by the ports it names. -/
inductive RouteArg where
  | unused (entry : Nat)
  | entry (entry first second : Nat) (dest : List Nat)
  | default (dest : List Nat)
  deriving DecidableEq, Repr

/-- What a KEYWORD SET writes (R89): the mark "unused", or a text with an action number. -/
inductive KeywordArg where
  | unused
  | text (codes : List Nat) (action : Nat)
  deriving DecidableEq, Repr

/-- The commands and events of the part, in the order of spec/opcode_table.json. -/
inductive Instr where
  /-- Power is applied; the straps are read at the levels given, true for high (R183, R199). -/
  | powerOn (strapFirst strapSecond : Bool)
  /-- The reset pin is asserted (R199). -/
  | resetPin (strapFirst strapSecond : Bool)
  /-- 25 ms have passed since the last whole-part reset (R80). -/
  | timingBaseSettled
  /-- 100,000 ticks have passed since the monotonic counter's last advance (R80). -/
  | monotonicSecondsAdvance
  /-- 100,000 ticks have passed since the wire clock's last advance or CLOCK SET (R81). -/
  | wireClockAdvance
  /-- PORT SETUP (R190, R191). -/
  | portSetup (tag : Octet) (port : Nat) (settings : List Setting)
  /-- PORT START (R193). -/
  | portStart (tag : Octet) (port : Nat)
  /-- PORT STOP of kind DRAIN (R194, R151). -/
  | portStopDrain (tag : Octet) (port : Nat)
  /-- PORT STOP of kind CUT (R194, R152). -/
  | portStopCut (tag : Octet) (port : Nat)
  /-- PART SETUP (R192). -/
  | partSetup (tag : Octet) (lede threshold : Option Nat)
  /-- TABLE LOAD (R6, R7). -/
  | tableLoad (tag : Octet) (table half start : Nat) (run : List RawEntry)
  /-- MARKER SET, the five markers in the order of R41. -/
  | markerSet (tag : Octet) (opn cls brk res vd : List Nat)
  /-- ROUTE SET (R100). -/
  | routeSet (tag : Octet) (arg : RouteArg)
  /-- KEYWORD SET (R89). -/
  | keywordSet (tag : Octet) (entry : Nat) (arg : KeywordArg)
  /-- CLOCK SET: seconds of day and day count (R81). -/
  | clockSet (tag : Octet) (seconds day : Nat)
  /-- IDENTIFY (R156). -/
  | identify (tag : Octet) (port : Nat)
  /-- STORY OPEN (R73). -/
  | storyOpen (tag : Octet)
  /-- STORY APPEND (R74). -/
  | storyAppend (tag : Octet) (slot : Nat) (cells : List Nat)
  /-- STORY CLOSE (R75). -/
  | storyClose (tag : Octet) (slot : Nat)
  /-- STORY READ (R76). -/
  | storyRead (tag : Octet) (slot offset count : Nat)
  /-- STORY LIST: a state number (R65's order: FREE 0, ASSEMBLING 1, FILED 2, SETTLED 3) and a start slot (R77). -/
  | storyList (tag : Octet) (state start : Nat)
  /-- LINE REPLACE (R78, R79). -/
  | lineReplace (tag : Octet) (slot line : Nat) (cells : List Nat)
  /-- STORY HOLD (R111). -/
  | storyHold (tag : Octet) (slot : Nat)
  /-- STORY UNHOLD (R111). -/
  | storyUnhold (tag : Octet) (slot : Nat)
  /-- STORY CANCEL (R112). -/
  | storyCancel (tag : Octet) (slot : Nat)
  /-- STORY RELEASE (R115). -/
  | storyRelease (tag : Octet) (slot : Nat)
  /-- STORY REQUEUE with the ports its destination set names (R114). -/
  | storyRequeue (tag : Octet) (slot : Nat) (dest : List Nat)
  /-- SEARCH (R94). -/
  | search (tag : Octet) (text : List Nat) (first last : Nat)
  /-- The running search examines its next slot (R95). -/
  | searchExamineSlot
  /-- STATUS with the selector PORT (R195, R196). -/
  | statusPort (tag : Octet) (port : Nat)
  /-- STATUS with the selector PART (R195, R197). -/
  | statusPart (tag : Octet) (number : Nat)
  /-- STATUS with the selector STORY (R195, R197). -/
  | statusStory (tag : Octet) (slot : Nat)
  /-- RESET with the selector TRAFFIC (R200). -/
  | resetTraffic (tag : Octet)
  /-- RESET with the selector FULL (R201). -/
  | resetFull (tag : Octet)
  /-- A reset that waited for places in the reply queue goes on (R187). -/
  | resetExecutionResumes
  /-- The end of the RESET FULL DONE frame; the straps are read again (R201). -/
  | resetFullComplete (strapFirst strapSecond : Bool)
  /-- A delivered frame that is none of the requests of R186: its kind and its body (R187). -/
  | badRequest (tag kind : Octet) (body : List Octet)
  /-- The bytes of a frame, from its start byte, that the frame receiver rejects (R185). -/
  | frameRejected (bytes : List Octet)
  /-- The bytes of an unfinished frame after which more than 10 ms passed (R185). -/
  | frameGapTimeout (bytes : List Octet)
  /-- The bytes received since a frame's start, the last of them arriving with clear-to-send off (R183, R185). -/
  | flowDiscard (bytes : List Octet)
  /-- 10 ms have passed in DISCARD with no byte (R185). -/
  | discardQuietExit
  /-- The last byte of the frame being sent has ended (R187). -/
  | frameSent
  /-- The oldest waiting long reply finds a place in the reply queue (R188). -/
  | longReplyQueued
  /-- The stop sample of the character being framed: its five data samples and the stop level (R20). -/
  | characterReceived (line : Fin 16) (code : Fin 32) (stop : Level)
  /-- The inactivity time has passed since the timer was started (R54). -/
  | inactivityExpiry (line : Fin 16)
  /-- Continuous space has reached 3C (R22, R23). -/
  | breakDetected (line : Fin 16)
  /-- Continuous mark has reached 10C (R24). -/
  | restore (line : Fin 16)
  /-- The motor start wait has passed in STARTING (R119). -/
  | startWaitEnd (line : Fin 16)
  /-- The motor idle time has passed in READY (R120). -/
  | motorIdleExpiry (line : Fin 16)
  /-- The character in progress on the line has ended (R123). -/
  | sendCharacterEnd (line : Fin 16)
  /-- The identify window has passed since the end of IDENT (R160). -/
  | identifyWindowExpiry (line : Fin 16)
  /-- The age of the port's entry for the slot has reached the promotion interval (R106). -/
  | entryPromotion (port : Fin 24) (slot : Fin 256)
  /-- The stop sample of a typed character: its office value and the stop level (R169). -/
  | deskCharacterReceived (desk : Fin 8) (value : Fin 128) (stop : Level)
  /-- The character in progress on the desk's send pin has ended (R170). -/
  | deskCharacterSent (desk : Fin 8)
  /-- The stall timer has reached the stall limit (R176). -/
  | stallExpiry (desk : Fin 8)
  /-- A mark-to-space transition on the line's receive pin (R19, R22, R24). -/
  | markToSpaceTransition (line : Fin 16)
  /-- The start sample at 0.5U found mark (R19). -/
  | falseStart (line : Fin 16)
  /-- A space-to-mark transition on the line's receive pin (R22, R24). -/
  | spaceToMarkTransition (line : Fin 16)
  deriving DecidableEq, Repr

end Sys2Proof
end

