-- ==== Sys2Proof/Decode.lean ====
section
/-! DEFINITION. The decoder of table words. The table gives no row any bits: the part's commands reach it as frames of
the control link, whose bodies Sys2Proof/Machine/Frames.lean builds and parses, and as events. -/

namespace Sys2Proof

/-- The command a word of the opcode table spells: none, since no row gives bits (log entry 1). -/
def decodeTableWord (_nbits _w : Nat) : Option Instr := none

end Sys2Proof
end

