-- ==== Sys2Proof/Config.lean ====
section
/-! DEFINITION. What the manual fixes as a number of the part, and the one choice it leaves free. -/

namespace Sys2Proof.Config

/-- Ticks of 10 µs in one millisecond (R80). -/
def ticksPerMs : Nat := 100

/-- Ticks of 10 µs in one second (R80). -/
def ticksPerSecond : Nat := 100000

/-- Milliseconds from a whole-part reset to the settled flag (R80, R199). -/
def settleMs : Nat := 25

/-- Which block of the free pool an appender is given. R60 calls the pool an unordered set and no rule says
which of its blocks leaves it, so the choice has no body: the n-th block taken since reset is the member at place
`blockChoice n` of the pool, counted modulo the free count. No reply, notice or line shows a block number.
Log entry 4. -/
opaque blockChoice : Nat → Nat

end Sys2Proof.Config
end

