-- ==== Sys2Proof/Machine/Types.lean ====
section
/-! DEFINITION. The types of the part's state, block by block as in the block overview of 00_scope.md: plain data. Each
docstring names the rule that gives the item. -/

namespace Sys2Proof.Machine

/-! ## Line code, tables and markers -/

/-- Case of a table half, and a decoder's receive case (R2). -/
inductive Case where
  | letters
  | figures
  deriving DecidableEq, Repr

/-- A sender's send case: UNKNOWN when the far printer's case is not assured (R2). -/
inductive SendCase where
  | letters
  | figures
  | unknown
  deriving DecidableEq, Repr

/-- The four kinds of table entry (R4); `nothing` is the kind NONE. -/
inductive Entry where
  | print (v : Nat)
  | bell
  | ident
  | nothing
  deriving DecidableEq, Repr

/-- One half of a translation table: 32 positions, `none` where a position holds no entry (R1, R4). -/
abbrev Half := Vector (Option Entry) 32

/-- A translation table (1.3). -/
structure Table where
  letters : Half
  figures : Half
  deriving DecidableEq, Repr

/-- A sender's reverse map (R10): for each office code 0–127 its LETTERS and its FIGURES position. -/
structure ReverseMap where
  letters : List (Option Nat)
  figures : List (Option Nat)
  deriving DecidableEq, Repr

/-- The table state of one line side (R8). -/
structure TableSide where
  copy    : Table
  inForce : Fin 4
  staged  : Option (Fin 4)
  refresh : Bool
  deriving DecidableEq, Repr

/-- The five markers (R41). -/
inductive Marker where
  | opn
  | cls
  | brk
  | res
  | vd
  deriving DecidableEq, Repr

/-- The marker set (R41). -/
structure MarkerSet where
  opn : List Nat
  cls : List Nat
  brk : List Nat
  res : List Nat
  vd  : List Nat
  deriving DecidableEq, Repr

/-! ## Stories -/

/-- Story classes, highest first (Terms). -/
inductive Class where
  | flash
  | urgent
  | ordinary
  | deferred
  deriving DecidableEq, Repr

/-- Story states (R65, R67). -/
inductive StoryState where
  | free
  | assembling
  | filed
  | settled
  deriving DecidableEq, Repr

/-- Where a story came from: a line, a desk, or the control link, number 24 (R65). -/
inductive Origin where
  | line (l : Fin 16)
  | desk (d : Fin 8)
  | host
  deriving DecidableEq, Repr

/-- A reading of the wire clock: seconds of day and day count (R81). -/
structure Stamp where
  seconds : Nat
  day     : Nat
  deriving DecidableEq, Repr

/-- The header record (R58, R59). -/
structure Header where
  source    : List Nat
  serial    : Nat
  cls       : Class
  category  : List Nat
  wordCount : Option Nat
  slug      : Option (List Nat)
  deriving DecidableEq, Repr

/-- Close causes (3.9). -/
inductive CloseCause where
  | closed
  | unterminated
  | overlong
  | truncated
  | timedOut
  deriving DecidableEq, Repr

/-- Discard reasons (R65, R68). -/
inductive DiscardReason where
  | voided
  | empty
  | duplicate
  | abandoned
  | reclaimed
  | released
  deriving DecidableEq, Repr

/-- A destination set over the ports 0–23. -/
abbrev PortSet := Vector Bool 24

/-- A keyword set over the entries 0–23 (R88). -/
abbrev KeywordSet := Vector Bool 24

/-- A story record (R65). The text stands here cell by cell; block k of the chain holds cells 64k to 64k + 63 of it
(R61). Its length is the length of `text`. -/
structure Story where
  state         : StoryState
  held          : Bool
  origin        : Option Origin
  opened        : Option Stamp
  filed         : Option Stamp
  header        : Option Header
  effective     : Class
  text          : List Cell
  limit         : Nat
  textLines     : Nat
  chain         : List Nat
  cause         : Option CloseCause
  closed        : Bool
  garbles       : Nat
  overruns      : Nat
  substitutions : Nat
  keywords      : KeywordSet
  pendingSet    : PortSet
  doneSet       : PortSet
  missedSet     : PortSet
  begun         : Bool
  reason        : Option DiscardReason
  noticePending : Bool
  deriving DecidableEq, Repr

/-- The scan context the screening unit keeps for an ASSEMBLING story (R90). -/
structure Scan where
  window   : Nat
  opened   : Bool
  lineEnds : Nat
  tail     : List Cell
  deriving DecidableEq, Repr

/-- A duplicate key: source and serial (5.2). -/
structure Key where
  source : List Nat
  serial : Nat
  deriving DecidableEq, Repr

/-- Keyword actions (R88). -/
inductive KeywordAction where
  | note
  | raise
  | stop
  deriving DecidableEq, Repr

/-- A used keyword entry (R88). -/
structure Keyword where
  text   : List Nat
  action : KeywordAction
  deriving DecidableEq, Repr

/-- A used routing entry; a pattern position is a letter or '*', 42 (R99). -/
structure Route where
  first  : Nat
  second : Nat
  dest   : PortSet
  deriving DecidableEq, Repr

/-- One hit of a search (R96). -/
structure Hit where
  slot   : Fin 256
  state  : StoryState
  offset : Nat
  deriving DecidableEq, Repr

/-- A running search (R94). -/
structure Search where
  text : List Nat
  last : Nat
  next : Nat
  hits : List Hit
  deriving DecidableEq, Repr

/-! ## Ports -/

/-- A queue entry (R104). -/
structure QEntry where
  slot : Fin 256
  cls  : Class
  at_  : Seconds
  deriving DecidableEq, Repr

/-- The condition set of a port (Terms). -/
structure Conditions where
  broken        : Bool
  unidentified  : Bool
  stalled       : Bool
  waiting       : Bool
  directoryFull : Bool
  deriving DecidableEq, Repr

/-- The six port counters (R36, R38, R124, R196). -/
structure Counters where
  characters : Nat
  garbles    : Nat
  overruns   : Nat
  strays     : Nat
  assembled  : Nat
  sent       : Nat
  deriving DecidableEq, Repr

/-- What every port 0–23 holds (R104, R107, R196). -/
structure Port where
  inService  : Bool
  conditions : Conditions
  counters   : Counters
  queue      : List QEntry
  promotion  : Nat
  deriving DecidableEq, Repr

/-- Line modes (R17). -/
inductive Mode where
  | receive
  | send
  | both
  deriving DecidableEq, Repr

/-- Stop lengths of 1, 1.5 and 2 units (R17, R18). -/
inductive StopLength where
  | one
  | oneAndHalf
  | two
  deriving DecidableEq, Repr

/-- Fill characters (R122). -/
inductive FillChar where
  | blank
  | letters
  deriving DecidableEq, Repr

/-- The settings of a line that are held once and never staged (R17, R40, R84, R122, R155). -/
structure LineSettings where
  mode           : Mode
  rate           : Fin 5
  stop           : StopLength
  maxLength      : Nat
  inactivity     : Nat
  dedupe         : Bool
  startWait      : Nat
  idleTime       : Nat
  answerback     : List Nat
  identifyBefore : Bool
  expected       : List Nat
  window         : Nat
  tries          : Nat
  deriving DecidableEq, Repr

/-- The send settings that are staged on a line in service, as in force (R122, R139). -/
structure SendSettings where
  width        : Nat
  allowance    : Nat
  minFill      : Nat
  fill         : FillChar
  refresh      : Bool
  substitution : Nat
  unshift      : Bool
  deriving DecidableEq, Repr

/-- The staged values of those settings, one at most for each field (R140). -/
structure StagedSend where
  width        : Option Nat
  allowance    : Option Nat
  minFill      : Option Nat
  fill         : Option FillChar
  refresh      : Option Bool
  substitution : Option Nat
  unshift      : Option Bool
  deriving DecidableEq, Repr

/-- Line receiver states (R19). -/
inductive RxState where
  | off
  | waiting
  | framing
  | broken
  deriving DecidableEq, Repr

/-- A line receiver (R19–R25). `pin` is the level on the receive pin; the times are readings of the tick counter. -/
structure Receiver where
  state : RxState
  pin   : Level
  edge  : Nat
  space : Option Nat
  mark  : Option Nat
  deriving DecidableEq, Repr

/-- A line decoder (2.4). -/
structure Decoder where
  side          : TableSide
  case          : Case
  returnSeen    : Bool
  inLine        : Bool
  blankLines    : Nat
  unshift       : Bool
  stagedUnshift : Option Bool
  deriving DecidableEq, Repr

/-- Receive machine states (R38). -/
inductive ReceiveMachine where
  | off
  | hunt
  | story
  | broken
  deriving DecidableEq, Repr

/-- A story assembler (chapter 3), with its holding FIFO (R34). `markers` is the set its window is matched against
(R42); `timer` is the tick at which the running inactivity timer was last started. -/
structure Assembler where
  machine   : ReceiveMachine
  window    : List Cell
  markers   : MarkerSet
  skip      : Bool
  current   : Option (Fin 256)
  suspended : Option (Fin 256)
  timer     : Option Nat
  fifo      : List Cell
  deriving DecidableEq, Repr

/-- Send machine states (R118). -/
inductive SendMachine where
  | out
  | quiet
  | starting
  | ready
  | sending
  | identifying
  | blocked
  deriving DecidableEq, Repr

/-- A story a port has taken, with the entry class the port keeps for it (R108). -/
structure Delivery where
  slot : Fin 256
  cls  : Class
  deriving DecidableEq, Repr

/-- A HELD suspended context (R142). -/
structure HeldContext where
  slot          : Fin 256
  cls           : Class
  readPos       : Nat
  linesSent     : Nat
  substitutions : Nat
  deriving DecidableEq, Repr

/-- The suspension of a sender (R142). -/
inductive Suspension where
  | empty
  | held (c : HeldContext)
  | withdrawn
  deriving DecidableEq, Repr

/-- Kinds of PORT STOP (R194). -/
inductive StopKind where
  | drain
  | cut
  deriving DecidableEq, Repr

/-- Identify phases (R155). -/
inductive Phase where
  | none
  | pending
  | awaiting
  | calling
  | collecting
  | closing
  deriving DecidableEq, Repr

/-- Outcomes of an exchange (R155). -/
inductive ExchangeOutcome where
  | none
  | done
  | failed
  deriving DecidableEq, Repr

/-- The identify state of a sender (R155). -/
structure Identify where
  phase     : Phase
  request   : Bool
  tryNumber : Nat
  collector : List Cell
  timer     : Option Nat
  outcome   : ExchangeOutcome
  deriving DecidableEq, Repr

/-- One code a sender sends, with what it is (R1, R123). -/
inductive SendCode where
  | cr
  | lf
  | fill (f : FillChar)
  | shift (c : Case)
  | space
  | print (c : Case) (code : Nat)
  | bell (c : Case) (code : Nat)
  | ident (code : Nat)
  deriving DecidableEq, Repr

/-- What the sender takes up at the end of the unit it is sending: the place it has reached in the sequences of
R119, R124, R138, R143–R152, R161 and R163. -/
inductive Next where
  /-- Step 2 of R124, the OPEN marker. -/
  | openMarker
  /-- The end of the return after OPEN (step 3), a suspension point. -/
  | afterOpen
  /-- The end of a stored line end's return; `last` when the line end was the text's last cell (R143). -/
  | afterLine (last : Bool)
  /-- The text at the read position, after a fold or a hard break. -/
  | text
  /-- Step 6 of R124, the CLOSE marker. -/
  | closeMarker
  /-- The end of step 7, completion. -/
  | complete
  /-- The end of the return after BREAK (R144). -/
  | afterBreak
  /-- The end of the return after RESUME (R146). -/
  | afterResume
  /-- The restart VOIDs (R150). -/
  | restartVoids
  /-- The end of the return after an interruption's closing VOID (R145). -/
  | withdrawnDone
  /-- A cancelled current story, its return sent (R147). -/
  | cancelled
  /-- The end of the return after that VOID (R147). -/
  | cancelDone
  /-- A cancelled suspended story, its return sent, with no current story (R148). -/
  | heldCancelled
  /-- The end of the return after that VOID (R148). -/
  | heldCancelDone
  /-- Steps 2 to 4 of R152. -/
  | cutPoint
  /-- The answerback itself, from QUIET or READY, after a return (R138). -/
  | answerReady
  /-- The answerback itself, at the end of STARTING, after a return (R138). -/
  | answerStarting
  /-- READY again after an answerback (R138). -/
  | ready
  /-- The order of R119 at the end of the start wait. -/
  | started
  /-- The end of an exchange's closing return (R161, R162). -/
  | exchangeClosed
  deriving DecidableEq, Repr

/-- What the sender is in the middle of sending. -/
inductive Activity where
  | idle
  /-- A return sequence, with the fill count, fill character and case refresh in force at its carriage return, and
  whether it is the one that ends an answerback (R138). -/
  | ret (next : Next) (n : Nat) (fill : FillChar) (refresh answer : Bool)
  /-- A marker: the letters after the one being sent, and what follows its return. -/
  | marker (m : Marker) (rest : List Nat) (next : Next)
  /-- Codes of story text. -/
  | text
  /-- The answerback: the characters after the one being sent, and what follows its return. -/
  | answer (rest : List Nat) (next : Next)
  /-- The figures shift and IDENT of a try (R159). -/
  | call
  deriving DecidableEq, Repr

/-- An event that acts at the end of the character in progress (R123). -/
inductive Halt where
  | none
  /-- Break (R149). -/
  | broken
  /-- RESET TRAFFIC (R153). -/
  | reset
  /-- PORT STOP during an exchange (R163). -/
  | stopped
  /-- STORY CANCEL of the current story (R147). -/
  | cancelled
  /-- STORY CANCEL of the suspended story with no current story (R148). -/
  | heldCancelled
  deriving DecidableEq, Repr

/-- A line sender (chapter 7), with its suspension state (R142) and identify state (R155). `txChar` is the character
in progress and the tick it began; `codes` those already chosen to follow it. `openNow` says that the current story,
or one cancelled and not yet voided, is open at the far end (R142). -/
structure Sender where
  machine       : SendMachine
  column        : Nat
  case          : SendCase
  pendingSpaces : Nat
  readPos       : Nat
  inWord        : Bool
  linesSent     : Nat
  current       : Option Delivery
  substitutions : Nat
  answerPending : Bool
  startTimer    : Option Nat
  idleTimer     : Option Nat
  suspension    : Suspension
  farOpen       : Nat
  openNow       : Bool
  restartVoid   : Bool
  stopPending   : Option StopKind
  identify      : Identify
  side          : TableSide
  map           : ReverseMap
  identPos      : Option Nat
  settings      : SendSettings
  staged        : StagedSend
  activity      : Activity
  codes         : List SendCode
  txChar        : Option (SendCode × Nat)
  halt          : Halt
  deriving DecidableEq, Repr

/-- One line: its settings, its receive side and its send side. -/
structure Line where
  settings  : LineSettings
  receiver  : Receiver
  decoder   : Decoder
  assembler : Assembler
  sender    : Sender
  deriving DecidableEq, Repr

/-- Desk states (R166). -/
inductive DeskState where
  | out
  | idle
  | delivering
  | composing
  | stalled
  deriving DecidableEq, Repr

/-- The place within a desk's delivery (R166, R172–R174): the banner's characters still to be sent after the leading
return is decided, the text at a cell, the LF of a line end, the closing characters, or everything sent. -/
inductive DeskPlace where
  | bannerStart (chars : List Nat)
  | banner (rest : List Nat)
  | text (pos : Nat)
  | textFeed (pos : Nat)
  | closing (rest : List Nat)
  | finished
  deriving DecidableEq, Repr

/-- The output of a desk in DELIVERING (R166); a withdrawal's characters before and after its leading return is
decided (R177). -/
inductive DeskOutput where
  | none
  | story (place : DeskPlace)
  | withdrawalStart (chars : List Nat)
  | withdrawal (rest : List Nat)
  deriving DecidableEq, Repr

/-- Desk settings (R167); `rate` numbers 1,200, 2,400, 4,800 and 9,600 bit/s from 0. -/
structure DeskSettings where
  rate       : Fin 4
  pauseCode  : Nat
  resumeCode : Nat
  fileCode   : Nat
  cancelCode : Nat
  rubout     : Nat
  echo       : Bool
  stallLimit : Nat
  garble     : Nat
  maxLength  : Nat
  deriving DecidableEq, Repr

/-- A desk port controller (R166). `txChar` is the character in progress; `stall` the tick at which the running stall
timer started. `clearing` says that RESET TRAFFIC has cleared the desk, which is IDLE when its character in progress has
ended (R182). -/
structure Desk where
  settings  : DeskSettings
  state     : DeskState
  pause     : Bool
  output    : DeskOutput
  current   : Option Delivery
  short     : List Nat
  lineStart : Bool
  buffer    : List Cell
  composing : Option (Fin 256)
  stall     : Option Nat
  txChar    : Option Nat
  clearing  : Bool
  deriving DecidableEq, Repr

/-! ## Control link -/

/-- Termination classes (R189), in their numbered order (R184). -/
inductive Termination where
  | done
  | failed
  | refused
  | cut
  deriving DecidableEq, Repr

/-- Detail codes (R189). -/
inductive Detail where
  | badRequest
  | badParameter
  | wrongState
  | busy
  | noSuchStory
  | storeFull
  | sequence
  | badSetup
  | notReady
  deriving DecidableEq, Repr

/-- What stopped the writing of a STORY APPEND (R74). -/
inductive AppendStop where
  | lengthLimit
  | emptyPool
  deriving DecidableEq, Repr

/-- How a SEARCH ended (R97). -/
inductive SearchEnd where
  | complete
  | notSatisfied
  | more (next : Nat)
  deriving DecidableEq, Repr

/-- A STORY LIST summary (R77). The filed time and the three sets stand for FILED and SETTLED stories alone. -/
structure Summary where
  slot      : Fin 256
  state     : StoryState
  held      : Bool
  origin    : Option Origin
  effective : Class
  length    : Nat
  textLines : Nat
  cause     : Option CloseCause
  header    : Option (Key × List Nat)
  filed     : Option (Option Stamp × PortSet × PortSet × PortSet)
  deriving DecidableEq, Repr

/-- The part of STATUS port that every port gives (R196). -/
structure PortStatus where
  inService  : Bool
  conditions : Conditions
  load       : Nat
  promotion  : Nat
  counters   : Counters
  deriving DecidableEq, Repr

/-- The receive side of a line in STATUS port (R196). -/
structure ReceiveStatus where
  receiver   : RxState
  machine    : ReceiveMachine
  case       : Case
  current    : Option (Fin 256)
  suspended  : Option (Fin 256)
  matching_  : Bool
  waiting    : Bool
  deriving DecidableEq, Repr

/-- The kind of a suspension, as STATUS port names it (R142, R196). -/
inductive SuspensionKind where
  | empty
  | held
  | withdrawn
  deriving DecidableEq, Repr

/-- The send side of a line in STATUS port (R196). -/
structure SendStatus where
  machine       : SendMachine
  case          : SendCase
  column        : Nat
  current       : Option (Fin 256)
  answerPending : Bool
  suspension    : SuspensionKind
  held          : Option (Fin 256 × Class × Nat)
  farOpen       : Nat
  restartVoid   : Bool
  stopPending   : Option StopKind
  phase         : Phase
  tryNumber     : Nat
  collected     : Nat
  deriving DecidableEq, Repr

/-- One side's table number, refresh flag and the identifiers of the fields that hold a staged value (R196). -/
structure SideStatus where
  table   : Fin 4
  refresh : Bool
  staged  : List Nat
  deriving DecidableEq, Repr

/-- The output of a desk as STATUS port names it (R166). -/
inductive OutputKind where
  | none
  | story
  | withdrawal
  deriving DecidableEq, Repr

/-- A desk in STATUS port (R196). -/
structure DeskStatus where
  state     : DeskState
  pause     : Bool
  output    : OutputKind
  current   : Option (Fin 256)
  buffered  : Nat
  composing : Option (Fin 256)
  deriving DecidableEq, Repr

/-- STATUS part (R197). -/
structure PartStatus where
  freeCount   : Nat
  hostStories : Nat
  settledLen  : Nat
  waitList    : Vector Bool 16
  filedCount  : Nat
  threshold   : Nat
  lede        : Nat
  keys        : List Key
  searching   : Option Nat
  clock       : Stamp
  seconds     : Seconds
  subjects    : Nat
  markers     : MarkerSet
  deriving DecidableEq, Repr

/-- The results a reply carries after its termination class and detail code (R187), request by request. -/
inductive Results where
  | none
  /-- TABLE LOAD: entries taken (R7). -/
  | entriesTaken (n : Nat)
  /-- STORY OPEN and STORY CLOSE: the slot (R73, R75). -/
  | slot (n : Fin 256)
  /-- STORY APPEND: taken, rejected, not taken, and what stopped the writing (R74). -/
  | append (taken rejected notTaken : Nat) (stop : Option AppendStop)
  /-- STORY READ: state, length, cells (R76). -/
  | read (state : StoryState) (length : Nat) (cells : List Cell)
  /-- STORY LIST: summaries, and the next slot when more stand above (R77). -/
  | list (items : List Summary) (next : Option (Fin 256))
  /-- LINE REPLACE: the new length (R79). -/
  | length (n : Nat)
  /-- STORY CANCEL: ports moved to the missed set (R112). -/
  | ports (n : Nat)
  /-- STORY REQUEUE: ports added and missed (R114). -/
  | requeued (added missed : PortSet)
  /-- SEARCH DONE (R97). -/
  | search (hits : List Hit) (ending : SearchEnd)
  /-- SEARCH CUT: the next slot (R98). -/
  | searchCut (next : Nat)
  /-- IDENTIFY DONE and FAILED: the collector and a number of tries (R161, R162). -/
  | identified (cells : List Cell) (tries : Nat)
  /-- IDENTIFY CUT: tries begun, and the collector (R163). -/
  | identifyCut (tries : Nat) (cells : List Cell)
  /-- STATUS port for a line (R196). -/
  | statusLine (p : PortStatus) (r : ReceiveStatus) (s : SendStatus) (receiveSide sendSide : SideStatus)
  /-- STATUS port for a desk (R196). -/
  | statusDesk (p : PortStatus) (d : DeskStatus)
  /-- STATUS part (R197). -/
  | statusPart (p : PartStatus)
  /-- STATUS story: the record (R197). -/
  | statusStory (record : Story)
  deriving DecidableEq, Repr

/-- A reply (R187). -/
structure Reply where
  tag     : Octet
  cls     : Termination
  detail  : Option Detail
  results : Results
  deriving DecidableEq, Repr

/-- Reasons of a REJECT (R185). -/
inductive RejectReason where
  | length
  | check
  | gap
  | flow
  deriving DecidableEq, Repr

/-- The pending reject (R185). -/
structure PendingReject where
  reason : RejectReason
  count  : Nat
  deriving DecidableEq, Repr

/-- The pending kinds of a story subject (R198). -/
structure StoryKinds where
  filed     : Bool
  settled   : Bool
  discarded : Bool
  missed    : Bool
  deriving DecidableEq, Repr

/-- One subject on the notice subject list with its pending kinds; a port has the one kind condition changed, the
part the one kind READY (R198). -/
inductive Notice where
  | story (slot : Fin 256) (kinds : StoryKinds)
  | port (p : Fin 24)
  | part
  deriving DecidableEq, Repr

/-- A frame the part sends (R184, R198). A notice holds the subject's state as it stood when its frame was built. -/
inductive Frame where
  | reply (r : Reply)
  | reject (r : PendingReject)
  | story (slot : Fin 256) (kinds : StoryKinds) (record : Story)
  | port (p : Fin 24) (conditions : Conditions)
  | part (clock : Stamp)
  deriving DecidableEq, Repr

/-- Frame receiver states (R185). A command brings a frame's bytes whole, so FRAME stands only inside one. -/
inductive FrameRx where
  | idle
  | hunt
  | frame
  | discard
  deriving DecidableEq, Repr

/-- What a long request concerns (R188). -/
inductive LongSubject where
  | line (l : Fin 16)
  | search
  deriving DecidableEq, Repr

/-- A long-request record (R188). -/
structure LongRecord where
  subject : LongSubject
  tag     : Octet
  deriving DecidableEq, Repr

/-- Selectors of RESET (R200, R201). -/
inductive ResetKind where
  | traffic
  | full
  deriving DecidableEq, Repr

/-- A reset in execution (R187, R200, R201): the replies, its own DONE last, that still wait for places. -/
structure ResetExec where
  kind    : ResetKind
  replies : List Reply
  deriving DecidableEq, Repr

/-- The link controller (chapter 11). `ready` is set at the end of the READY frame (R199); `waiting` holds the
replies of long requests that wait for places, in the order their outcomes were posted (R188). -/
structure Link where
  strapFirst  : Bool
  strapSecond : Bool
  rx          : FrameRx
  ready       : Bool
  replies     : List Reply
  txFrame     : Option Frame
  reject      : Option PendingReject
  notices     : List Notice
  records     : List LongRecord
  waiting     : List (LongRecord × Reply)
  resetting   : Option ResetExec
  quietFrom   : Nat
  deriving DecidableEq, Repr

/-! ## The whole part -/

/-- The timing base (R80, R81). `secondsFrom` and `clockFrom` are the ticks of the last advances. -/
structure Time where
  ticks       : Nat
  seconds     : Seconds
  secondsFrom : Nat
  clock       : Stamp
  clockFrom   : Nat
  settled     : Bool
  deriving DecidableEq, Repr

/-- The settings held once in the part: templates (R5), marker set (R41), lede window (R90), reclaim threshold (R71),
keyword table (R88), routing table and default set (R99). -/
structure Part where
  templates  : Vector Table 4
  markers    : MarkerSet
  lede       : Nat
  threshold  : Nat
  keywords   : Vector (Option Keyword) 24
  routes     : Vector (Option Route) 48
  defaultSet : PortSet
  deriving DecidableEq, Repr

/-- The traffic state: ports, lines, desks, store and directory, screening, and the link. `picks` counts the blocks
taken from the pool since reset, for `Config.blockChoice`. The duplicate stack holds its keys oldest first: the last
stands at rank 16 and the one i places before it at rank 16 − i (R85). -/
structure Room where
  ports      : Vector Port 24
  lines      : Vector Line 16
  desks      : Vector Desk 8
  stories    : Vector Story 256
  scans      : Vector (Option Scan) 256
  pool       : List Nat
  freeCount  : Nat
  picks      : Nat
  waitList   : Vector Bool 16
  settled    : List (Fin 256)
  filedCount : Nat
  stack      : List Key
  search     : Option Search
  link       : Link
  deriving DecidableEq, Repr

/-- What the blocks read and cannot write while they work: the timing base and the part settings as they stand at
the command. -/
structure Ctx where
  time : Time
  part : Part
  deriving DecidableEq, Repr

end Sys2Proof.Machine
end

