-- ==== Sys2Proof/Machine/ResetValues.lean ====
section
/-! DEFINITION. Function codes, the factory table and markers, the reverse map, and the value of every item of state
after power-on, the reset pin and RESET FULL. -/

namespace Sys2Proof.Machine


/-- The six function codes (R1). -/
def isFunctionCode (c : Nat) : Bool := [0, 2, 4, 8, 27, 31].contains c

/-- A half built from its entries at the table codes in ascending order (R5). -/
def Half.ofEntries (entries : List (Nat × Entry)) : Half :=
  entries.foldl (fun h e => h.set (Fin.ofNat 32 e.1) (some e.2)) (Vector.replicate 32 none)

/-- The 26 table codes (R1). -/
def tableCodes : List Nat :=
  [1, 3, 5, 6, 7, 9, 10, 11, 12, 13, 14, 15, 16, 17, 18, 19, 20, 21, 22, 23, 24, 25, 26, 28, 29, 30]

/-- The factory table (R5). -/
def factoryTable : Table where
  letters := Half.ofEntries (tableCodes.zip ((List.range 26).map fun i => Entry.print (65 + i)))
  figures := Half.ofEntries (tableCodes.zip
    ([48, 49, 50, 51, 52, 53, 54, 55, 56, 57, 45, 39, 40, 41, 44, 46, 47, 58, 59, 61, 63, 43].map Entry.print
      ++ [Entry.bell, Entry.ident, Entry.nothing, Entry.nothing]))

/-- The factory markers VVVV, XXXX, BKBK, RSRS and VDVD (R41). -/
def factoryMarkers : MarkerSet where
  opn := [86, 86, 86, 86]
  cls := [88, 88, 88, 88]
  brk := [66, 75, 66, 75]
  res := [82, 83, 82, 83]
  vd  := [86, 68, 86, 68]

/-- The lowest table code of a half whose entry is the one given (R10, R12). -/
def Half.position (h : Half) (e : Entry) : Option Nat :=
  tableCodes.find? fun c => h[Fin.ofNat 32 c] == some e

/-- The entry kind that carries an office code to the line: BELL for 7, PRINT for 33–126 (R10). -/
def officeEntry (v : Nat) : Option Entry :=
  if v = 7 then some .bell else if 33 ≤ v ∧ v ≤ 126 then some (.print v) else none

/-- One case of a reverse map (R10). -/
def Half.reverse (h : Half) : List (Option Nat) :=
  (List.range 128).map fun v => (officeEntry v).bind h.position

/-- The reverse map of a working copy (R10). -/
def Table.reverseMap (t : Table) : ReverseMap where
  letters := t.letters.reverse
  figures := t.figures.reverse

/-- The IDENT position of a working copy: the FIGURES half alone (R12). -/
def Table.identPosition (t : Table) : Option Nat := t.figures.position .ident

/-- The empty set of ports or keyword entries. -/
def emptySet : Vector Bool 24 := Vector.replicate 24 false

/-- A FREE record with every field empty or absent (R82). -/
def Story.blank : Story where
  state := .free
  held := false
  origin := none
  opened := none
  filed := none
  header := none
  effective := .ordinary
  text := []
  limit := 0
  textLines := 0
  chain := []
  cause := none
  closed := false
  garbles := 0
  overruns := 0
  substitutions := 0
  keywords := emptySet
  pendingSet := emptySet
  doneSet := emptySet
  missedSet := emptySet
  begun := false
  reason := none
  noticePending := false

/-- Counters at 0. -/
def Counters.zero : Counters where
  characters := 0
  garbles := 0
  overruns := 0
  strays := 0
  assembled := 0
  sent := 0

/-- The empty condition set. -/
def Conditions.none : Conditions where
  broken := false
  unidentified := false
  stalled := false
  waiting := false
  directoryFull := false

/-- A port after power-on (R107, R117). -/
def Port.reset : Port where
  inService := false
  conditions := Conditions.none
  counters := Counters.zero
  queue := []
  promotion := 15

/-- Line settings after power-on (R17, R40, R84, R122, R155). -/
def LineSettings.reset : LineSettings where
  mode := .receive
  rate := 1
  stop := .oneAndHalf
  maxLength := 8192
  inactivity := 60
  dedupe := true
  startWait := 1500
  idleTime := 90
  answerback := []
  identifyBefore := false
  expected := []
  window := 2500
  tries := 2

/-- Send settings after power-on (R122). -/
def SendSettings.reset : SendSettings where
  width := 69
  allowance := 200
  minFill := 2
  fill := .blank
  refresh := true
  substitution := 63
  unshift := false

/-- No staged send setting. -/
def StagedSend.none : StagedSend where
  width := Option.none
  allowance := Option.none
  minFill := Option.none
  fill := Option.none
  refresh := Option.none
  substitution := Option.none
  unshift := Option.none

/-- Table state after power-on (R15). -/
def TableSide.reset : TableSide where
  copy := factoryTable
  inForce := 0
  staged := none
  refresh := false

/-- A receiver after power-on (R25, R36). The pin's level is an input; it rests at mark (R19). -/
def Receiver.reset : Receiver where
  state := .off
  pin := .mark
  edge := 0
  space := none
  mark := none

/-- A decoder after power-on (R36). -/
def Decoder.reset : Decoder where
  side := TableSide.reset
  case := .letters
  returnSeen := false
  inLine := false
  blankLines := 0
  unshift := false
  stagedUnshift := none

/-- An assembler after power-on (R56). -/
def Assembler.reset : Assembler where
  machine := .off
  window := []
  markers := factoryMarkers
  skip := false
  current := none
  suspended := none
  timer := none
  fifo := []

/-- The identify state after power-on and at PORT START (R155). -/
def Identify.reset : Identify where
  phase := .none
  request := false
  tryNumber := 0
  collector := []
  timer := none
  outcome := .none

/-- A sender after power-on (R141, R154, R155). -/
def Sender.reset : Sender where
  machine := .out
  column := 0
  case := .unknown
  pendingSpaces := 0
  readPos := 0
  inWord := false
  linesSent := 0
  current := none
  substitutions := 0
  answerPending := false
  startTimer := none
  idleTimer := none
  suspension := .empty
  farOpen := 0
  openNow := false
  restartVoid := false
  stopPending := none
  identify := Identify.reset
  side := TableSide.reset
  map := factoryTable.reverseMap
  identPos := factoryTable.identPosition
  settings := SendSettings.reset
  staged := StagedSend.none
  activity := .idle
  codes := []
  txChar := none
  halt := .none

/-- A line after power-on. -/
def Line.reset : Line where
  settings := LineSettings.reset
  receiver := Receiver.reset
  decoder := Decoder.reset
  assembler := Assembler.reset
  sender := Sender.reset

/-- Desk settings after power-on (R167). -/
def DeskSettings.reset : DeskSettings where
  rate := 3
  pauseCode := 19
  resumeCode := 17
  fileCode := 4
  cancelCode := 24
  rubout := 127
  echo := true
  stallLimit := 60
  garble := 42
  maxLength := 8192

/-- A desk after power-on (R182). -/
def Desk.reset : Desk where
  settings := DeskSettings.reset
  state := .out
  pause := false
  output := .none
  current := none
  short := []
  lineStart := false
  buffer := []
  composing := none
  stall := none
  txChar := none
  clearing := false

/-- The link after power-on with the straps as read (R183, R199). -/
def Link.reset (strapFirst strapSecond : Bool) : Link where
  strapFirst := strapFirst
  strapSecond := strapSecond
  rx := .idle
  ready := false
  replies := []
  txFrame := none
  reject := none
  notices := []
  records := []
  waiting := []
  resetting := none
  quietFrom := 0

/-- The timing base after power-on (R80). -/
def Time.reset : Time where
  ticks := 0
  seconds := 0
  secondsFrom := 0
  clock := ⟨0, 0⟩
  clockFrom := 0
  settled := false

/-- The part settings after power-on (R5, R41, R71, R88, R90, R99). -/
def Part.reset : Part where
  templates := Vector.replicate 4 factoryTable
  markers := factoryMarkers
  lede := 4
  threshold := 64
  keywords := Vector.replicate 24 none
  routes := Vector.replicate 48 none
  defaultSet := emptySet

/-- The traffic state after power-on, with the straps as read (R60, R63, R70, R82, R85, R98, R117). -/
def Room.reset (strapFirst strapSecond : Bool) : Room where
  ports := Vector.replicate 24 Port.reset
  lines := Vector.replicate 16 Line.reset
  desks := Vector.replicate 8 Desk.reset
  stories := Vector.replicate 256 Story.blank
  scans := Vector.replicate 256 none
  pool := List.range 1024
  freeCount := 1024
  picks := 0
  waitList := Vector.replicate 16 false
  settled := []
  filedCount := 0
  stack := []
  search := none
  link := Link.reset strapFirst strapSecond

end Sys2Proof.Machine
end

