-- ==== Sys2Proof/Machine/Codes.lean ====
section
/-! DEFINITION. Office codes and cells, the arithmetic of blocks and characters, and the numbers of ports. -/

namespace Sys2Proof.Machine

/-- A letter of either case. -/
def isLetter (c : Nat) : Bool := (65 ≤ c && c ≤ 90) || (97 ≤ c && c ≤ 122)

/-- A digit. -/
def isDigit (c : Nat) : Bool := 48 ≤ c && c ≤ 57

/-- A printing character of the office code, 32–126 (1.2). -/
def isPrinting (c : Nat) : Bool := 32 ≤ c && c ≤ 126

/-- Letters folded to upper case; any other value as it is (R3, R11, R58). -/
def upper (c : Nat) : Nat := if 97 ≤ c ∧ c ≤ 122 then c - 32 else c

/-- A boundary cell of the keyword scan: neither letter nor digit (R91). -/
def isBoundary (c : Cell) : Bool := !(isLetter c || isDigit c)

/-- A word cell of the encoder: printing but not a space, or a garble mark (R126, R130). -/
def isWordCell (c : Cell) : Bool := (33 ≤ c && c ≤ 126) || c = 128

/-- The cells a STORY APPEND takes (R3, R74). -/
def isAppendable (c : Nat) : Bool := c = 7 || c = 10 || isPrinting c || c = 128

/-- The cells a LINE REPLACE takes (R3, R78). -/
def isReplaceable (c : Nat) : Bool := c = 7 || isPrinting c || c = 128

/-- The quotient rounded up. -/
def ceilDiv (a b : Nat) : Nat := (a + b - 1) / b

/-- Blocks of 64 cells that hold a text of the given length (R61). -/
def blocksFor (length : Nat) : Nat := ceilDiv length 64

/-- One more, stopping at 65,535 (R36, R44, R57, R67). -/
def bump (n : Nat) : Nat := min (n + 1) 65535

/-- A sum stopping at 65,535 (R65, R110). -/
def bumpBy (n k : Nat) : Nat := min (n + k) 65535

/-- Garble marks in a run of cells. -/
def garbleMarks (cells : List Cell) : Nat := cells.count 128

/-- The unit U of a rate code, in ticks (R18). -/
def unitTicks (rate : Fin 5) : Nat :=
  match rate with
  | 0 => 2200
  | 1 => 2000
  | 2 => 1758
  | 3 => 1348
  | 4 => 1000

/-- The half-units H of a character (R18). -/
def halfUnits : StopLength → Nat
  | .one => 14
  | .oneAndHalf => 15
  | .two => 16

/-- The character time C = U × H / 2 of a line, in ticks (R18). -/
def LineSettings.charTicks (s : LineSettings) : Nat := unitTicks s.rate * halfUnits s.stop / 2

/-- The traffic port of a line. -/
def linePort (l : Fin 16) : Fin 24 := ⟨l.val, by omega⟩

/-- The traffic port of a desk: 16 more than its number. -/
def deskPort (d : Fin 8) : Fin 24 := ⟨16 + d.val, by omega⟩

/-- The line or the desk a port number stands for. -/
def portUnit (p : Fin 24) : Fin 16 ⊕ Fin 8 :=
  if h : p.val < 16 then .inl ⟨p.val, h⟩ else .inr ⟨p.val - 16, by omega⟩

/-- The port on which a story arrived; a host story has none (R102). -/
def Origin.port? : Origin → Option (Fin 24)
  | .line l => some (linePort l)
  | .desk d => some (deskPort d)
  | .host => none

/-- An origin's number: ports 0–23, the control link 24 (R65). -/
def Origin.number : Origin → Nat
  | .line l => l.val
  | .desk d => 16 + d.val
  | .host => 24

/-- The sixteen lines in ascending order. -/
def allLines : List (Fin 16) := [0, 1, 2, 3, 4, 5, 6, 7, 8, 9, 10, 11, 12, 13, 14, 15]

/-- The eight desks in ascending order. -/
def allDesks : List (Fin 8) := [0, 1, 2, 3, 4, 5, 6, 7]

/-- The ports, and the keyword entries, 0–23 in ascending order. -/
def all24 : List (Fin 24) :=
  [0, 1, 2, 3, 4, 5, 6, 7, 8, 9, 10, 11, 12, 13, 14, 15, 16, 17, 18, 19, 20, 21, 22, 23]

/-- The story slots in ascending order. -/
def allSlots : List (Fin 256) := (List.range 256).map (Fin.ofNat 256)

/-- The slot a request names, when it is in 0–255. -/
def slotOf (n : Nat) : Option (Fin 256) := if h : n < 256 then some ⟨n, h⟩ else none

/-- The port a request names, when it is in 0–23. -/
def portOf (n : Nat) : Option (Fin 24) := if h : n < 24 then some ⟨n, h⟩ else none

/-- Members of a set in ascending order. -/
def setMembers (s : Vector Bool 24) : List (Fin 24) := all24.filter fun p => s[p]

/-- The set of the numbers of a list; numbers from 24 up are passed over. -/
def setOfList (l : List Nat) : Vector Bool 24 :=
  l.foldl (fun s n => if h : n < 24 then s.set n true h else s) emptySet

/-- Whether a set holds no member. -/
def setIsEmpty (s : Vector Bool 24) : Bool := all24.all fun p => !s[p]

/-- The rank of a class in queue order, FLASH first (R105). -/
def Class.rank : Class → Nat
  | .flash => 0
  | .urgent => 1
  | .ordinary => 2
  | .deferred => 3

/-- The class's header letter (Terms). -/
def Class.letter : Class → Nat
  | .flash => 70
  | .urgent => 85
  | .ordinary => 79
  | .deferred => 68

/-- The next class up at promotion (R106) and under RAISE (R93); URGENT and FLASH stay. -/
def Class.up : Class → Class
  | .flash => .flash
  | .urgent => .urgent
  | .ordinary => .urgent
  | .deferred => .ordinary

/-- The letters of a marker (R41). -/
def MarkerSet.letters (s : MarkerSet) : Marker → List Nat
  | .opn => s.opn
  | .cls => s.cls
  | .brk => s.brk
  | .res => s.res
  | .vd => s.vd

end Sys2Proof.Machine
end

