-- ==== Sys2Proof/Machine/Flags.lean ====
section
/-! DEFINITION. The flags the host sees: condition sets, pending kinds, the clear-to-send output, and the bits in
which they travel. -/

namespace Sys2Proof.Machine

/-- The clear-to-send output (R183): the part is ready, no RESET FULL is in execution, the reply queue holds fewer
than 8 replies, and neither a reset nor a long reply waits for a place. -/
def Link.clearToSend (k : Link) : Bool :=
  k.ready && k.replies.length < 8 && k.waiting.isEmpty && k.resetting.isNone

/-- Whether the frame receiver is delivering frames and the link can take a request (R185, R187). -/
def Link.canTake (k : Link) : Bool :=
  k.clearToSend && (k.rx == .hunt || k.rx == .frame)

/-- The link rate the straps select, in bit/s (R183). -/
def Link.rate (k : Link) : Nat :=
  match k.strapFirst, k.strapSecond with
  | false, false => 9600
  | false, true => 19200
  | true, false => 38400
  | true, true => 76800

/-- A condition set as a byte, bits 0 to 4 (R184). -/
def Conditions.byte (c : Conditions) : Nat :=
  c.broken.toNat + 2 * c.unidentified.toNat + 4 * c.stalled.toNat + 8 * c.waiting.toNat + 16 * c.directoryFull.toNat

/-- Pending kinds of a story as a byte, bit n for the n-th kind of R198 (R184). -/
def StoryKinds.byte (k : StoryKinds) : Nat :=
  k.filed.toNat + 2 * k.settled.toNat + 4 * k.discarded.toNat + 8 * k.missed.toNat

/-- No kind pending. -/
def StoryKinds.none : StoryKinds := ⟨false, false, false, false⟩

/-- The union of two sets of kinds (R116, R198). -/
def StoryKinds.join (a b : StoryKinds) : StoryKinds :=
  ⟨a.filed || b.filed, a.settled || b.settled, a.discarded || b.discarded, a.missed || b.missed⟩

/-- The kind FILED alone. -/
def StoryKinds.ofFiled : StoryKinds := { StoryKinds.none with filed := true }

/-- The kind SETTLED alone. -/
def StoryKinds.ofSettled : StoryKinds := { StoryKinds.none with settled := true }

/-- The kind DISCARDED alone. -/
def StoryKinds.ofDiscarded : StoryKinds := { StoryKinds.none with discarded := true }

/-- The kind MISSED alone. -/
def StoryKinds.ofMissed : StoryKinds := { StoryKinds.none with missed := true }

end Sys2Proof.Machine
end

