-- ==== Sys2Proof/Machine/State.lean ====
section
/-! DEFINITION. The state of the Wolzane 1624, its reasons to stop, and `State.reset`. -/

namespace Sys2Proof.Machine

/-- The whole machine: the commands waiting, first in, first out, and the part. -/
structure State where
  pending : List Instr
  time    : Time
  part    : Part
  room    : Room
  deriving DecidableEq, Repr

/-- The reasons the part stops with a fault: none. The manual names no event that stops the Wolzane 1624; every
refused, rejected or cut request is answered and the part goes on. -/
inductive Fault where
  deriving DecidableEq, Repr

/-- The reasons a command has no meaning. -/
inductive Refusal where
  /-- Raised by `exec` alone, for a row of the table with no meaning yet. Safe: the machine stops. -/
  | notModelled (mnemonic : String)
  deriving DecidableEq, Repr

/-- The machine right after power-on, with both straps low (log entry 2) and no command waiting. -/
def State.reset : State where
  pending := []
  time := Time.reset
  part := Part.reset
  room := Room.reset false false

end Sys2Proof.Machine
end

