-- ==== Sys2Proof/Machine/Ops.lean ====
section
/-! DEFINITION. The named operations over the state: reads and updates of one line, desk, port and story, port
counters, posts to the notice subject list, conditions, the reply queue and the transmitter, and the clocks. -/

namespace Sys2Proof.Machine

/-! ## One line, desk, port or story -/

/-- The room with one line changed. -/
def Room.modLine (r : Room) (l : Fin 16) (f : Line → Line) : Room :=
  { r with lines := r.lines.set l (f r.lines[l]) }

/-- The room with one line's receiver changed. -/
def Room.modReceiver (r : Room) (l : Fin 16) (f : Receiver → Receiver) : Room :=
  r.modLine l fun x => { x with receiver := f x.receiver }

/-- The room with one line's decoder changed. -/
def Room.modDecoder (r : Room) (l : Fin 16) (f : Decoder → Decoder) : Room :=
  r.modLine l fun x => { x with decoder := f x.decoder }

/-- The room with one line's assembler changed. -/
def Room.modAssembler (r : Room) (l : Fin 16) (f : Assembler → Assembler) : Room :=
  r.modLine l fun x => { x with assembler := f x.assembler }

/-- The room with one line's sender changed. -/
def Room.modSender (r : Room) (l : Fin 16) (f : Sender → Sender) : Room :=
  r.modLine l fun x => { x with sender := f x.sender }

/-- The room with one line's identify state changed. -/
def Room.modIdentify (r : Room) (l : Fin 16) (f : Identify → Identify) : Room :=
  r.modSender l fun x => { x with identify := f x.identify }

/-- The room with one desk changed. -/
def Room.modDesk (r : Room) (d : Fin 8) (f : Desk → Desk) : Room :=
  { r with desks := r.desks.set d (f r.desks[d]) }

/-- The room with one port changed. -/
def Room.modPort (r : Room) (p : Fin 24) (f : Port → Port) : Room :=
  { r with ports := r.ports.set p (f r.ports[p]) }

/-- The room with one story record changed. -/
def Room.modStory (r : Room) (s : Fin 256) (f : Story → Story) : Room :=
  { r with stories := r.stories.set s (f r.stories[s]) }

/-- The room with the link changed. -/
def Room.modLink (r : Room) (f : Link → Link) : Room :=
  { r with link := f r.link }

/-- The room with a port's counters changed. -/
def Room.modCounters (r : Room) (p : Fin 24) (f : Counters → Counters) : Room :=
  r.modPort p fun x => { x with counters := f x.counters }

/-! ## Port counters, each saturating at 65,535 (R36, R44, R57, R124, R170) -/

/-- One character received (R20, R169). -/
def Room.countCharacter (r : Room) (p : Fin 24) : Room :=
  r.modCounters p fun c => { c with characters := bump c.characters }

/-- One garble mark produced, or a desk framing error (R31, R169). -/
def Room.countGarble (r : Room) (p : Fin 24) : Room :=
  r.modCounters p fun c => { c with garbles := bump c.garbles }

/-- Overruns of the holding FIFO (R34, R35). -/
def Room.countOverruns (r : Room) (p : Fin 24) (n : Nat) : Room :=
  r.modCounters p fun c => { c with overruns := bumpBy c.overruns n }

/-- Strays; a line end is dropped uncounted (R44). -/
def Room.countStray (r : Room) (p : Fin 24) (cell : Cell) : Room :=
  if cell = 10 then r else r.modCounters p fun c => { c with strays := bump c.strays }

/-- One story assembled (R57, R180). -/
def Room.countAssembled (r : Room) (p : Fin 24) : Room :=
  r.modCounters p fun c => { c with assembled := bump c.assembled }

/-- One story sent (R124, R174). -/
def Room.countSent (r : Room) (p : Fin 24) : Room :=
  r.modCounters p fun c => { c with sent := bump c.sent }

/-! ## Notices and conditions -/

/-- Whether a subject of the list is the slot's. -/
def Notice.isStory (slot : Fin 256) : Notice → Bool
  | .story s _ => s = slot
  | _ => false

/-- A list of subjects after a story is posted with kinds: they join the subject's own, or the subject joins the tail
(R198). -/
def postStoryList (slot : Fin 256) (kinds : StoryKinds) : List Notice → List Notice
  | [] => [.story slot kinds]
  | n :: rest =>
    match n with
    | .story s ks => if s = slot then .story s (ks.join kinds) :: rest else n :: postStoryList slot kinds rest
    | _ => n :: postStoryList slot kinds rest

/-- A story slot is posted with kinds; its record's notice-pending becomes yes (R69, R116, R198). -/
def Room.postStory (r : Room) (slot : Fin 256) (kinds : StoryKinds) : Room :=
  (r.modStory slot fun s => { s with noticePending := true }).modLink fun k =>
    { k with notices := postStoryList slot kinds k.notices }

/-- A port is posted with the kind condition changed (R198). -/
def Room.postPort (r : Room) (p : Fin 24) : Room :=
  r.modLink fun k => if k.notices.contains (.port p) then k else { k with notices := k.notices ++ [.port p] }

/-- The part is posted with the kind READY (R198, R199). -/
def Room.postPart (r : Room) : Room :=
  r.modLink fun k => if k.notices.contains .part then k else { k with notices := k.notices ++ [.part] }

/-- A port's condition set takes a new value; the port is posted when that changes it. -/
def Room.setConditions (r : Room) (p : Fin 24) (f : Conditions → Conditions) : Room :=
  if f r.ports[p].conditions = r.ports[p].conditions then r
  else (r.modPort p fun x => { x with conditions := f x.conditions }).postPort p

/-! ## Replies and the transmitter -/

/-- A DONE reply. -/
def doneReply (tag : Octet) (results : Results) : Reply := ⟨tag, .done, none, results⟩

/-- A REFUSED reply: a detail code and no results (R187, R189). -/
def refusedReply (tag : Octet) (d : Detail) : Reply := ⟨tag, .refused, some d, .none⟩

/-- A reply joins the tail of the reply queue (R187). -/
def Link.queueReply (k : Link) (reply : Reply) : Link := { k with replies := k.replies ++ [reply] }

/-- A frame is rejected with a reason (R185). -/
def Link.rejectFrame (k : Link) (reason : RejectReason) : Link :=
  match k.reject with
  | none => { k with reject := some ⟨reason, 1⟩ }
  | some j => { k with reject := some ⟨reason, min (j.count + 1) 255⟩ }

/-- The outcome of a long request is posted: its reply joins the queue if it has a place and none waits before it,
and otherwise waits; the record goes with the reply (R188). A subject with no record posts nothing. -/
def Link.postOutcome (k : Link) (subject : LongSubject) (cls : Termination) (results : Results) : Link :=
  match k.records.find? fun x => x.subject == subject with
  | none => k
  | some rec =>
    let reply : Reply := ⟨rec.tag, cls, none, results⟩
    let k := { k with records := k.records.filter fun x => x.subject != subject }
    if k.replies.length < 8 ∧ k.waiting = [] then k.queueReply reply
    else { k with waiting := k.waiting ++ [(rec, reply)] }

/-- The frame the notice of the first subject makes, from the state as it stands, and the state after it leaves the
list: a slot's notice-pending is no, and a FREE slot's kept fields are cleared (R69, R198). -/
def Room.takeNotice (clock : Stamp) (r : Room) : Room :=
  match r.link.notices with
  | [] => r
  | n :: rest =>
    match n with
    | .story slot kinds =>
      let rec_ := r.stories[slot]
      let r := r.modLink fun k => { k with notices := rest, txFrame := some (.story slot kinds rec_) }
      r.modStory slot fun s => if s.state = .free then Story.blank else { s with noticePending := false }
    | .port p =>
      r.modLink fun k => { k with notices := rest, txFrame := some (.port p r.ports[p].conditions) }
    | .part => r.modLink fun k => { k with notices := rest, txFrame := some (.part clock) }

/-- A free transmitter takes the next frame: the oldest reply, then the pending reject, then the first notice (R187).
Under RESET FULL it takes replies alone (R201). -/
def Room.transmit (clock : Stamp) (r : Room) : Room :=
  match r.link.txFrame with
  | some _ => r
  | none =>
    match r.link.replies with
    | reply :: rest => r.modLink fun k => { k with replies := rest, txFrame := some (.reply reply) }
    | [] =>
      match r.link.resetting with
      | some ⟨.full, _⟩ => r
      | _ =>
        match r.link.reject with
        | some j => r.modLink fun k => { k with reject := none, txFrame := some (.reject j) }
        | none => r.takeNotice clock

/-! ## The whole state -/

/-- What the blocks read of the state. -/
def State.ctx (s : State) : Ctx := ⟨s.time, s.part⟩

/-- The tick counter stands at least at the tick an event is due; an event later than that leaves it (log entry 3). -/
def State.reach (s : State) (due : Nat) : State :=
  { s with time := { s.time with ticks := max s.time.ticks due } }

/-- The end of every command: a free transmitter takes the next frame. -/
def State.finish (s : State) : State :=
  { s with room := s.room.transmit s.time.clock }

/-- The room after a command's work in it. -/
def State.inRoom (s : State) (f : Ctx → Room → Room) : State :=
  { s with room := f s.ctx s.room }

/-- A place in the reply queue kept for the reply of the request being taken (R187). -/
def Link.keepPlace (k : Link) : Link := k.queueReply (refusedReply 0 .badRequest)

/-- The reply takes the place kept for it at a position. -/
def Link.fillPlace (k : Link) (n : Nat) (reply : Reply) : Link := { k with replies := k.replies.set n reply }

/-- A request is taken (R187): its reply has a place in the queue from the take on, and its work, whole, yields the
state and the reply. A request that the link cannot take changes nothing (log entry 5). -/
def State.request (s : State) (work : State → State × Reply) : State :=
  if s.room.link.canTake then
    let (s', reply) := work { s with room := s.room.modLink Link.keepPlace }
    { s' with room := s'.room.modLink fun k => k.fillPlace s.room.link.replies.length reply }.finish
  else s

/-- A request that its block refuses: the reply alone, nothing else changed (R187). -/
def State.refuse (s : State) (tag : Octet) (d : Detail) : State × Reply := (s, refusedReply tag d)

/-- Time passes by one tick with no command (log entry 3). -/
def State.tick (s : State) : State :=
  { s with time := { s.time with ticks := s.time.ticks + 1 } }

end Sys2Proof.Machine
end

