-- ==== Sys2Proof/Machine/Tables.lean ====
section
/-! DEFINITION. Chapter 1 and the safe points: the loading of templates, the working copies of each line side, the
look-ups of the decoder and the encoder, and staged settings. -/

namespace Sys2Proof.Machine

/-! ## Loading a template -/

/-- The entry a run's pair of bytes stands for: PRINT with a code in 32–126, BELL, IDENT or NONE (R4, R6, R184). -/
def RawEntry.entry (e : RawEntry) : Option Entry :=
  match e.kind with
  | 0 => if isPrinting e.code then some (.print e.code) else none
  | 1 => some .bell
  | 2 => some .ident
  | 3 => some .nothing
  | _ => none

/-- The case a number stands for: LETTERS 0, FIGURES 1 (R184). -/
def caseOf (n : Nat) : Option Case :=
  match n with
  | 0 => some .letters
  | 1 => some .figures
  | _ => none

/-- The half of a table for a case. -/
def Table.half (t : Table) : Case → Half
  | .letters => t.letters
  | .figures => t.figures

/-- The table with one half replaced. -/
def Table.withHalf (t : Table) (c : Case) (h : Half) : Table :=
  match c with
  | .letters => { t with letters := h }
  | .figures => { t with figures := h }

/-- A run written at consecutive indices: an entry at a function code is taken with no effect, one above 31 is
dropped (R7). -/
def Half.load (h : Half) (start : Nat) : List Entry → Half
  | [] => h
  | e :: rest =>
    let h := if lt : start < 32 then (if isFunctionCode start then h else h.set start (some e) lt) else h
    h.load (start + 1) rest

/-! ## Working copies -/

/-- A side's refresh source (R8). -/
def TableSide.source (s : TableSide) : Fin 4 := s.staged.getD s.inForce

/-- A PORT SETUP gives a side of a line in service a table number (R9). -/
def TableSide.stage (s : TableSide) (n : Fin 4) : TableSide :=
  if s.source = n then s
  else { s with staged := if n = s.inForce then none else some n, refresh := true }

/-- A copy is taken: the staged number, when held, becomes the number in force (R9, R15). -/
def TableSide.take (s : TableSide) (templates : Vector Table 4) : TableSide where
  copy := templates[s.source]
  inForce := s.source
  staged := none
  refresh := false

/-- A refresh at a safe point, when the flag is set (R13, R14). -/
def TableSide.refreshed (s : TableSide) (templates : Vector Table 4) : TableSide :=
  if s.refresh then s.take templates else s

/-- A PORT SETUP gives a side of a line out of service a table number, in force at once (R9, R139). -/
def TableSide.force (s : TableSide) (n : Fin 4) : TableSide := { s with inForce := n, staged := none }

/-! ## The decoder's safe point -/

/-- A decoder at its safe point: a pending refresh and a staged unshift value are applied together (R13, R33). -/
def Decoder.safePoint (d : Decoder) (templates : Vector Table 4) : Decoder :=
  { d with
    side := d.side.refreshed templates
    unshift := d.stagedUnshift.getD d.unshift
    stagedUnshift := none }

/-- The moment something is staged: at once when no text line is in progress (R13, R33). -/
def Decoder.settle (d : Decoder) (templates : Vector Table 4) : Decoder :=
  if d.inLine then d else d.safePoint templates

/-- A TABLE LOAD of a template marks a decoder in service whose refresh source it is (R8, R13). -/
def Decoder.tableLoaded (d : Decoder) (t : Fin 4) (templates : Vector Table 4) : Decoder :=
  if d.side.source = t then { d with side := { d.side with refresh := true } }.settle templates else d

/-- A PORT SETUP gives the decoder of a line in service an unshift-on-space value (R33). -/
def Decoder.stageUnshift (d : Decoder) (v : Bool) : Decoder :=
  { d with stagedUnshift := if v = d.unshift then none else some v }

/-! ## The sender's safe point -/

/-- The staged values applied together (R140). -/
def SendSettings.apply (s : SendSettings) (g : StagedSend) : SendSettings where
  width := g.width.getD s.width
  allowance := g.allowance.getD s.allowance
  minFill := g.minFill.getD s.minFill
  fill := g.fill.getD s.fill
  refresh := g.refresh.getD s.refresh
  substitution := g.substitution.getD s.substitution
  unshift := g.unshift.getD s.unshift

/-- A sender takes a copy: its reverse map and IDENT position are built from it (R10, R12). -/
def Sender.takeCopy (s : Sender) (templates : Vector Table 4) : Sender :=
  let side := s.side.take templates
  { s with side := side, map := side.copy.reverseMap, identPos := side.copy.identPosition }

/-- A sender at its safe point: staged settings, then a pending refresh (R14, R140). -/
def Sender.safePoint (s : Sender) (templates : Vector Table 4) : Sender :=
  let s := { s with settings := s.settings.apply s.staged, staged := StagedSend.none }
  if s.side.refresh then s.takeCopy templates else s

/-- The moment something is staged: at once in any state but SENDING (R14, R140). DESIGN CHOICE (log entry 54): at once in
the middle of a return sequence sent in READY, STARTING or IDENTIFYING too, where R14 says both that the refresh follows
the return (with R135) and that it comes at once. The return goes on as it was reckoned at its carriage return. -/
def Sender.settle (s : Sender) (templates : Vector Table 4) : Sender :=
  if s.machine = .sending then s else s.safePoint templates

/-- A TABLE LOAD of a template marks a sender in service whose refresh source it is (R8, R14; log entry 54). -/
def Sender.tableLoaded (s : Sender) (t : Fin 4) (templates : Vector Table 4) : Sender :=
  if s.side.source = t then { s with side := { s.side with refresh := true } }.settle templates else s

/-! ## Look-ups -/

/-- The entry the decoder finds for a table code (R30). -/
def Decoder.lookup (d : Decoder) (code : Fin 32) : Option Entry := (d.side.copy.half d.case)[code]

/-- The encoder's look-up of an office value in a reverse map (R11): a case and a table code, or unmapped. A
lower-case value is folded first. -/
def ReverseMap.find (m : ReverseMap) (c : SendCase) (v : Nat) : Option (Case × Nat) :=
  match m.letters.getD (upper v) none, m.figures.getD (upper v) none with
  | none, none => none
  | some p, none => some (.letters, p)
  | none, some p => some (.figures, p)
  | some p, some q => if c = .figures then some (.figures, q) else some (.letters, p)

end Sys2Proof.Machine
end

