-- ==== Sys2Proof/Machine/Operands.lean ====
section
/-! DEFINITION. What a sender sends: the line codes, the codes of a cell, a marker letter and a return sequence, the
word length and the placing of a word (chapter 7), and the match of an answerback (R160). -/

namespace Sys2Proof.Machine

/-! ## Line codes -/

/-- The 5-bit code on the line (R1). -/
def SendCode.line : SendCode → Nat
  | .cr => 8
  | .lf => 2
  | .fill .blank => 0
  | .fill .letters => 31
  | .shift .figures => 27
  | .shift .letters => 31
  | .space => 4
  | .print _ c => c
  | .bell _ c => c
  | .ident c => c

/-- The send case that is a case. -/
def Case.send : Case → SendCase
  | .letters => .letters
  | .figures => .figures

/-- The shift a code in a case needs first (R128). -/
def Sender.shiftFor (s : Sender) (c : Case) : List SendCode := if s.case = c.send then [] else [.shift c]

/-- A code begins at a tick: a carriage return takes the column to 0 (R134), a space and a printing code add one to
it (R126, R129), a shift sets the send case (R128), and a space sets LETTERS under unshift-on-space (R129). -/
def Sender.begin (s : Sender) (c : SendCode) (tick : Nat) : Sender :=
  let s := { s with txChar := some (c, tick) }
  match c with
  | .cr => { s with column := 0 }
  | .shift k => { s with case := k.send }
  | .space => { s with column := s.column + 1, case := if s.settings.unshift then .letters else s.case }
  | .print _ _ => { s with column := s.column + 1 }
  | _ => s

/-! ## The send pin -/

/-- The level of an element of a character, counted from 0 (R18, R168): a start element of space, the data elements with
the least significant bit first, mark for 1, and the stop of mark. -/
def elementLevel (data code element : Nat) : Level :=
  if element = 0 then .space
  else if element ≤ data then (if code.testBit (element - 1) then .mark else .space)
  else .mark

/-- The level of a line code's character a number of ticks after its start, with units of a length (R123). -/
def characterLevel (code unit elapsed : Nat) : Level := elementLevel 5 code (elapsed / unit)

/-- The level on a line's send pin at a tick (R123): its character in progress, or mark. -/
def Line.sendPin (x : Line) (tick : Nat) : Level :=
  match x.sender.txChar with
  | some (c, began) => characterLevel c.line (unitTicks x.settings.rate) (tick - began)
  | none => .mark

/-! ## Encoding -/

/-- The codes of an office value and whether it is substituted (R126–R128): its position, or the substitution
character's, or nothing when that has none. -/
def Sender.encode (s : Sender) (v : Nat) : List SendCode × Bool :=
  match s.map.find s.case v with
  | some (c, p) => (s.shiftFor c ++ [.print c p], false)
  | none =>
    if s.settings.substitution = 32 then ([.space], true)
    else match s.map.find s.case s.settings.substitution with
      | some (c, p) => (s.shiftFor c ++ [.print c p], true)
      | none => ([], true)

/-- The codes of a bell cell, or none when office 7 has no position (R133). -/
def Sender.encodeBell (s : Sender) : List SendCode :=
  match s.map.find s.case 7 with
  | some (c, p) => s.shiftFor c ++ [.bell c p]
  | none => []

/-- The codes of a marker letter: its LETTERS position when there is one (R125). -/
def Sender.encodeLetter (s : Sender) (v : Nat) : List SendCode × Bool :=
  match s.map.letters.getD v none with
  | some p => (s.shiftFor .letters ++ [.print .letters p], false)
  | none => s.encode v

/-- The codes of an answerback character; a space is sent at once as code 4 (R138). -/
def Sender.encodeAnswer (s : Sender) (v : Nat) : List SendCode := if v = 32 then [.space] else (s.encode v).1

/-! ## Words -/

/-- The length of the word at the head of some cells, counted on from a number already counted: each cell that will
print counts one; the count stops past the width (R130). -/
def Sender.wordLength (s : Sender) (count : Nat) : List Cell → Nat
  | [] => count
  | c :: rest =>
    if count = s.settings.width + 1 then count
    else if c = 7 then s.wordLength count rest
    else if isWordCell c then s.wordLength (if (s.encode c).1 = [] then count else count + 1) rest
    else count

/-- How a word is placed: behind a fold, or behind a number of spaces (R131). -/
inductive Placement where
  | fold
  | spaces (n : Nat)
  deriving DecidableEq, Repr

/-- The placing of a word of length k at column c with p pending spaces on a width W (R131). -/
def placeWord (c p k w : Nat) : Placement :=
  if c = 0 then .spaces (min p (w - k))
  else if w < c + p + k then .fold
  else .spaces p

/-- Whether a bell at the head of some cells stands at the start of a word: nothing but bells before a word cell
(R133). -/
def bellStartsWord (cells : List Cell) : Bool := ((cells.dropWhile fun c => c = 7).head?.any isWordCell)

/-! ## Return sequences -/

/-- The fill count N of a return at column c (R134). -/
def fillCount (charTicks : Nat) (s : SendSettings) (c : Nat) : Nat :=
  min 15 (s.minFill + (c * s.allowance + charTicks - 1) / charTicks)

/-- The codes of a return sequence (R134). -/
def returnCodes (n : Nat) (fill : FillChar) : List SendCode := .cr :: .lf :: List.replicate n (.fill fill)

/-- The send case at the end of a return sequence (R136). -/
def caseAfterReturn (refresh : Bool) (fill : FillChar) (n : Nat) (before : SendCase) : SendCase :=
  if fill = .letters ∧ 0 < n then .letters
  else if refresh then .unknown
  else before

/-! ## The answerback match -/

/-- Whether a run stands somewhere in some cells. -/
def containsRun (run : List Nat) : List Nat → Bool
  | [] => run.isEmpty
  | c :: rest => run.isPrefixOf (c :: rest) || containsRun run rest

/-- Whether the expected answerback stands in the collector, letters folded on both sides; an empty one matches
nothing (R160). -/
def answerbackMatches (expected collector : List Nat) : Bool :=
  !expected.isEmpty && containsRun (expected.map upper) (collector.map upper)

end Sys2Proof.Machine
end

