-- ==== Sys2Proof/Machine/Screening.lean ====
section
/-! DEFINITION. Chapter 5 and the header parse of chapter 3, as functions on texts, scan contexts and the duplicate
stack. -/

namespace Sys2Proof.Machine

/-! ## Keyword texts and hits -/

/-- The rules of a keyword text, after folding: 3 to 15 letters, digits and single interior spaces (R88). -/
def isKeywordText (t : List Nat) : Bool :=
  3 ≤ t.length && t.length ≤ 15 && t.all (fun c => (65 ≤ c && c ≤ 90) || isDigit c || c = 32)
    && t.head? != some 32 && t.getLast? != some 32
    && (t.zip t.tail).all fun p => !(p.1 = 32 && p.2 = 32)

/-- A keyword test of one text against the last cells of a tail (R91): the last cells equal the text after folding,
and the cell before them is a boundary cell, or absent because they begin the story. -/
def hitsAtEnd (text : List Nat) (tail : List Cell) : Bool :=
  let before := tail.length - text.length
  text.length ≤ tail.length && (tail.drop before).map upper == text
    && ((tail.take before).getLast?.all isBoundary)

/-- The entries that hit at a test join the keyword set (R91). -/
def keywordHits (keywords : Vector (Option Keyword) 24) (tail : List Cell) (set : KeywordSet) : KeywordSet :=
  all24.foldl
    (fun s i => match keywords[i] with
      | some k => if hitsAtEnd k.text tail then s.set i true else s
      | none => s)
    set

/-- The context given to a story at its open (R90). -/
def Scan.start (window : Nat) : Scan := ⟨window, true, 0, []⟩

/-- One cell written (R90, R91). Line ends are counted throughout. While the window is open a boundary cell makes a
test, the cell joins the tail of at most 16, and a window of a length above 0 ends at its last line end. -/
def Scan.cell (keywords : Vector (Option Keyword) 24) (c : Cell) (s : Scan) (set : KeywordSet) : Scan × KeywordSet :=
  let ends := if c = 10 then s.lineEnds + 1 else s.lineEnds
  if !s.opened then ({ s with lineEnds := ends }, set)
  else
    let set := if isBoundary c then keywordHits keywords s.tail set else set
    let tail := (s.tail ++ [c]).drop (s.tail.length + 1 - 16)
    ({ s with tail := tail, lineEnds := ends, opened := s.window = 0 || ends ≤ s.window }, set)

/-- The final test at the window edge, when the window is still open (R83, R91). -/
def Scan.edge (keywords : Vector (Option Keyword) 24) (s : Scan) (set : KeywordSet) : KeywordSet :=
  if s.opened then keywordHits keywords s.tail set else set

/-- Whether a text stands at the head of some cells, with a boundary or the end of the text after it (R96). -/
def matchesHere (text : List Nat) (cells : List Cell) : Bool :=
  (cells.take text.length).map upper == text && (cells.drop text.length).head?.all isBoundary

/-- The offset of a text's first occurrence between boundaries, counted on from `offset`; `before` says that the cell
before is a boundary cell or absent (R96). -/
def firstOccurrence (text : List Nat) (before : Bool) (offset : Nat) : List Cell → Option Nat
  | [] => none
  | c :: rest =>
    if before && matchesHere text (c :: rest) then some offset
    else firstOccurrence text (isBoundary c) (offset + 1) rest

/-! ## The duplicate stack -/

/-- A new key enters rank 16 and every key moves down one rank; past sixteen keys the oldest is dropped (R87). -/
def pushKey (stack : List Key) (k : Key) : List Key :=
  if stack.contains k then stack else (stack ++ [k]).drop (stack.length + 1 - 16)

/-- The effective class after the actions of the named entries (R93). -/
def raised (keywords : Vector (Option Keyword) 24) (set : KeywordSet) (c : Class) : Class :=
  if all24.any (fun i => set[i] && keywords[i].any fun k => k.action == .raise) then c.up else c

/-- Whether a named entry has the action STOP (R93). -/
def stopped (keywords : Vector (Option Keyword) 24) (set : KeywordSet) : Bool :=
  all24.any fun i => set[i] && keywords[i].any fun k => k.action == .stop

/-! ## The header parse -/

/-- The header line: the cells up to the first line end (R58). -/
def headerLine (text : List Cell) : List Cell := text.takeWhile fun c => c != 10

/-- The first token of some cells and what follows it, leading spaces passed over (R58). -/
def nextToken (cells : List Cell) : List Cell × List Cell :=
  let cells := cells.dropWhile fun c => c = 32
  (cells.takeWhile fun c => c != 32, cells.dropWhile fun c => c != 32)

/-- The value of a run of digits. -/
def digitsValue (t : List Nat) : Nat := t.foldl (fun n c => 10 * n + (c - 48)) 0

/-- A token of exactly n letters, in upper case (R58). -/
def lettersToken (n : Nat) (t : List Cell) : Option (List Nat) :=
  if t.length = n ∧ t.all isLetter then some (t.map upper) else none

/-- A token of 1 to 4 digits of a value above 0 (R58). -/
def serialToken (t : List Cell) : Option Nat :=
  if 1 ≤ t.length ∧ t.length ≤ 4 ∧ t.all isDigit ∧ 1 ≤ digitsValue t then some (digitsValue t) else none

/-- A class letter (R58). -/
def classToken (t : List Cell) : Option Class :=
  match t.map upper with
  | [70] => some .flash
  | [85] => some .urgent
  | [79] => some .ordinary
  | [68] => some .deferred
  | _ => none

/-- A word count: 1 to 5 digits and the letter W, of a value above 0 (R59). -/
def wordCountToken (t : List Cell) : Option Nat :=
  let digits := t.dropLast
  if 1 ≤ digits.length ∧ digits.length ≤ 5 ∧ digits.all isDigit ∧ t.getLast?.map upper = some 87
      ∧ 1 ≤ digitsValue digits then some (digitsValue digits)
  else none

/-- Cells with the spaces at their end removed. -/
def trimEnd (cells : List Cell) : List Cell := (cells.reverse.dropWhile fun c => c = 32).reverse

/-- The slug of what follows the last field: trimmed, cut to 24 cells, trimmed again, absent when nothing remains
(R59). -/
def slugOf (rest : List Cell) : Option (List Cell) :=
  let cells := trimEnd ((trimEnd (rest.dropWhile fun c => c = 32)).take 24)
  if cells = [] then none else some cells

/-- The header of a text, or none for an UNHEADED story (R58, R59). -/
def parseHeader (text : List Cell) : Option Header :=
  let (t1, r1) := nextToken (headerLine text)
  let (t2, r2) := nextToken r1
  let (t3, r3) := nextToken r2
  let (t4, r4) := nextToken r3
  let (t5, r5) := nextToken r4
  match lettersToken 3 t1, serialToken t2, classToken t3, lettersToken 2 t4 with
  | some source, some serial, some cls, some category =>
    match wordCountToken t5 with
    | some w => some ⟨source, serial, cls, category, some w, slugOf r5⟩
    | none => some ⟨source, serial, cls, category, none, slugOf r4⟩
  | _, _, _, _ => none

/-- The duplicate key of a header (5.2). -/
def Header.key (h : Header) : Key := ⟨h.source, h.serial⟩

end Sys2Proof.Machine
end

