-- ==== Sys2Proof/Machine/Store.lean ====
section
/-! DEFINITION. Chapter 4: blocks and the free pool, the block wait list and its arbiter, opening, writing and freeing
stories, settling and reclaim. -/

namespace Sys2Proof.Machine

/-! ## Writing cells -/

/-- One cell written to a story's chain: its length rises, a line end counts, and the cell passes to the lede scan
(R53, R74, R91). -/
def Room.writeCell (k : Ctx) (slot : Fin 256) (c : Cell) (r : Room) : Room :=
  let r := r.modStory slot fun s =>
    { s with text := s.text ++ [c], textLines := if c = 10 then s.textLines + 1 else s.textLines }
  match r.scans[slot] with
  | none => r
  | some scan =>
    let (scan, set) := scan.cell k.part.keywords c r.stories[slot].keywords
    { r.modStory slot fun s => { s with keywords := set } with scans := r.scans.set slot (some scan) }

/-- Cells written one after another. -/
def Room.writeCells (k : Ctx) (slot : Fin 256) (cells : List Cell) (r : Room) : Room :=
  cells.foldl (fun r c => r.writeCell k slot c) r

/-! ## Blocks -/

/-- A block leaves the pool for the end of a story's chain (R61). -/
def Room.poolTake (slot : Fin 256) (r : Room) : Room :=
  let i := Config.blockChoice r.picks % r.freeCount
  { r.modStory slot fun s => { s with chain := s.chain ++ [r.pool.getD i 0] } with
    pool := r.pool.eraseIdx i
    freeCount := r.freeCount - 1
    picks := r.picks + 1 }

/-- The waiting port with the lowest number (R64). -/
def Room.lowestWaiting (r : Room) : Option (Fin 16) := allLines.find? fun l => r.waitList[l]

/-- A line port leaves the block wait list; WAITING FOR STORE leaves its condition set (R35). -/
def Room.leaveWait (l : Fin 16) (r : Room) : Room :=
  { r with waitList := r.waitList.set l false }.setConditions (linePort l) fun c => { c with waiting := false }

/-- A block returns to the pool (R60). -/
def Room.poolReturn (block : Nat) (r : Room) : Room :=
  { r with pool := r.pool ++ [block], freeCount := r.freeCount + 1 }

/-- A freed block is granted to a waiting port: it joins its current story's chain and the holding FIFO is written
into it (R35, R64). A waiting port has a current story (R63); were there none, the block would go to the pool. -/
def Room.grant (k : Ctx) (l : Fin 16) (block : Nat) (r : Room) : Room :=
  match r.lines[l].assembler.current with
  | none => (r.leaveWait l).poolReturn block
  | some slot =>
    let fifo := r.lines[l].assembler.fifo
    let r := r.modStory slot fun s => { s with chain := s.chain ++ [block] }
    let r := r.writeCells k slot fifo
    (r.modAssembler l fun a => { a with fifo := [] }).leaveWait l

/-! ## Freeing and reclaim -/

/-- What the freeing of stories still has to do: a block through the arbiter, the reclaim test, or the post that ends
the freeing of a slot. -/
inductive StoreTask where
  | block (b : Nat)
  | test
  | post (slot : Fin 256)
  deriving DecidableEq, Repr

/-- The oldest unheld story of the settled list (R71, R72). -/
def Room.reclaimable (r : Room) : Option (Fin 256) := r.settled.find? fun s => !r.stories[s].held

/-- A story becomes FREE (R68): it leaves the settled list, its chain, text, held flag, sets and delivery-begun flag
go, its reason is recorded, and its scan context is discarded (R90). The rest of the record is kept. -/
def Room.detach (slot : Fin 256) (reason : DiscardReason) (r : Room) : Room :=
  let r := r.modStory slot fun s =>
    { s with
      state := .free, held := false, text := [], textLines := 0, limit := 0, chain := [], closed := false
      pendingSet := emptySet, doneSet := emptySet, missedSet := emptySet, begun := false, reason := some reason }
  { r with settled := r.settled.filter fun s => s != slot, scans := r.scans.set slot none }

/-- The tasks run in order. A freed block goes to the lowest waiting port, whose grant brings the reclaim test, or to
the pool (R64, R71). The test frees the oldest unheld settled story while the free count is below the threshold, its
blocks before anything else, and is made again (R72). Stories are freed whole: the test that a grant brings comes when
the blocks in hand have all been given away (log entry 28). -/
def Room.runTasks (k : Ctx) : Nat → List StoreTask → Room → Room
  | 0, _, r => r
  | _, [], r => r
  | fuel + 1, .block b :: rest, r =>
    match r.lowestWaiting with
    | some l => (r.grant k l b).runTasks k fuel (rest ++ [.test])
    | none => (r.poolReturn b).runTasks k fuel rest
  | fuel + 1, .test :: rest, r =>
    match (if r.freeCount < k.part.threshold then r.reclaimable else none) with
    | some slot =>
      let blocks := r.stories[slot].chain.map StoreTask.block
      (r.detach slot .reclaimed).runTasks k fuel (blocks ++ .post slot :: .test :: rest)
    | none => r.runTasks k fuel rest
  | fuel + 1, .post slot :: rest, r => (r.postStory slot StoryKinds.ofDiscarded).runTasks k fuel rest

/-- Steps enough for any freeing: one for each block, two for each settled story, two for each of at most sixteen
grants, and the opening tasks. -/
def Room.taskFuel (r : Room) (blocks : Nat) : Nat :=
  blocks + (r.settled.map fun s => r.stories[s].chain.length).sum + 2 * r.settled.length + 40

/-- The reclaim test (R71). -/
def Room.reclaimTest (k : Ctx) (r : Room) : Room := r.runTasks k (r.taskFuel 0) [.test]

/-- A story becomes FREE other than by reset (R68). -/
def Room.freeStory (k : Ctx) (slot : Fin 256) (reason : DiscardReason) (r : Room) : Room :=
  let chain := r.stories[slot].chain
  (r.detach slot reason).runTasks k (r.taskFuel chain.length) (chain.map StoreTask.block ++ [.post slot])

/-- Blocks freed from the end of a chain by LINE REPLACE, one at a time in chain order (R79). -/
def Room.freeBlocks (k : Ctx) (blocks : List Nat) (r : Room) : Room :=
  r.runTasks k (r.taskFuel blocks.length) (blocks.map StoreTask.block)

/-- An appender takes a block, and the reclaim test follows (R62, R71). -/
def Room.allocate (k : Ctx) (slot : Fin 256) (r : Room) : Room := (r.poolTake slot).reclaimTest k

/-- That many blocks taken one after another (R79, R179). -/
def Room.allocateMany (k : Ctx) (slot : Fin 256) : Nat → Room → Room
  | 0, r => r
  | n + 1, r => (r.allocate k slot).allocateMany k slot n

/-! ## Opening and settling -/

/-- The slot an opener is given: the lowest FREE one with no notice pending (R66). -/
def Room.openSlot (r : Room) : Option (Fin 256) :=
  allSlots.find? fun s => r.stories[s].state == .free && !r.stories[s].noticePending

/-- A story is opened in a slot (R66), with its scan context (R90). -/
def Room.openStory (k : Ctx) (slot : Fin 256) (origin : Origin) (limit : Nat) (r : Room) : Room :=
  let r := r.modStory slot fun _ =>
    { Story.blank with state := .assembling, origin := some origin, opened := some k.time.clock, limit := limit }
  { r with scans := r.scans.set slot (some (Scan.start k.part.lede)) }

/-- A story whose pending set is empty settles: it joins the tail of the settled list, is posted SETTLED, and the
reclaim test follows (R70, R110). -/
def Room.settleStory (k : Ctx) (slot : Fin 256) (r : Room) : Room :=
  let r := r.modStory slot fun s => { s with state := .settled }
  ({ r with settled := r.settled ++ [slot] }.postStory slot StoryKinds.ofSettled).reclaimTest k

/-- A FILED story settles when its pending set has emptied (R67, R110). -/
def Room.settleIfDone (k : Ctx) (slot : Fin 256) (r : Room) : Room :=
  if r.stories[slot].state = .filed ∧ setIsEmpty r.stories[slot].pendingSet then r.settleStory k slot else r

end Sys2Proof.Machine
end

