-- ==== Sys2Proof/Machine/Queues.lean ====
section
/-! DEFINITION. Chapter 6: the routing look-up, the order of a delivery queue, port loads, takes, returns, promotions
and the ends of deliveries. -/

namespace Sys2Proof.Machine

/-! ## Routing -/

/-- A pattern position matches a letter when it holds '*', 42, or that letter (R101). -/
def patternMatches (p c : Nat) : Bool := p = 42 || p = c

/-- A routing entry matches a category (R101). -/
def Route.accepts (e : Route) (category : List Nat) : Bool :=
  category.length = 2 && patternMatches e.first (category.getD 0 0) && patternMatches e.second (category.getD 1 0)

/-- The routing look-up: the first matching entry in ascending order, and otherwise, and for every UNHEADED story, the
default set (R101). -/
def Part.route (p : Part) (header : Option Header) : PortSet :=
  match header with
  | none => p.defaultSet
  | some h =>
    match p.routes.toList.find? fun e => e.any fun e => e.accepts h.category with
    | some (some e) => e.dest
    | _ => p.defaultSet

/-! ## Queue order -/

/-- An entry joins the tail of its class (R105). -/
def queueTail (e : QEntry) (q : List QEntry) : List QEntry :=
  (q.takeWhile fun x => x.cls.rank ≤ e.cls.rank) ++ e :: q.dropWhile fun x => x.cls.rank ≤ e.cls.rank

/-- An entry returned from an interrupted delivery joins the head of its class (R105, R109). -/
def queueHead (e : QEntry) (q : List QEntry) : List QEntry :=
  (q.takeWhile fun x => x.cls.rank < e.cls.rank) ++ e :: q.dropWhile fun x => x.cls.rank < e.cls.rank

/-- The queue less its entry for a slot. -/
def queueRemove (slot : Fin 256) (q : List QEntry) : List QEntry := q.filter fun e => e.slot != slot

/-- The age of an entry in seconds, modulo 2^32 (R106). -/
def QEntry.age (e : QEntry) (now : Seconds) : Nat := (now - e.at_).toNat

/-- Whether an entry is due for promotion at an interval in minutes; 0 stops promotion (R106, R107). -/
def QEntry.due (e : QEntry) (now : Seconds) (minutes : Nat) : Bool :=
  minutes != 0 && (e.cls == .ordinary || e.cls == .deferred) && 60 * minutes ≤ e.age now

/-- One entry promoted: it leaves its class for the tail of the next one up, its age starting again (R106). -/
def queuePromote (now : Seconds) (q : List QEntry) (e : QEntry) : List QEntry :=
  queueTail { e with cls := e.cls.up, at_ := now } (queueRemove e.slot q)

/-- The entries that fall due with an entry, in the order in which they stood: those of its class queued at its moment
that stand before it, and it (R106). -/
def dueWith (q : List QEntry) (e : QEntry) : List QEntry :=
  ((q.takeWhile fun x => x.slot != e.slot).filter fun x => x.cls == e.cls && x.at_ == e.at_) ++ [e]

/-- Every due entry promoted one step, in the order in which they stood (R106, R107). -/
def queuePromoteAll (now : Seconds) (minutes : Nat) (q : List QEntry) : List QEntry :=
  (q.filter fun e => e.due now minutes).foldl (queuePromote now) q

/-! ## What a port holds -/

/-- The port's current delivery (R104). -/
def Room.currentOf (r : Room) (p : Fin 24) : Option Delivery :=
  match portUnit p with
  | .inl l => r.lines[l].sender.current
  | .inr d => r.desks[d].current

/-- The port's suspended story, a HELD context (R104, R142). -/
def Room.suspendedOf (r : Room) (p : Fin 24) : Option (Fin 256) :=
  match portUnit p with
  | .inl l => match r.lines[l].sender.suspension with
    | .held c => some c.slot
    | _ => none
  | .inr _ => none

/-- The port load (R104). -/
def Room.load (r : Room) (p : Fin 24) : Nat :=
  r.ports[p].queue.length + (if (r.currentOf p).isSome then 1 else 0) + if (r.suspendedOf p).isSome then 1 else 0

/-- Whether a port is a line whose mode is RECEIVE (R102, R114). -/
def Room.receiveOnly (r : Room) (p : Fin 24) : Bool :=
  match portUnit p with
  | .inl l => r.lines[l].settings.mode == .receive
  | .inr _ => false

/-- The first eligible entry of a port: the first in queue order whose story is not held (R108). -/
def Room.firstEligible (r : Room) (p : Fin 24) : Option QEntry :=
  r.ports[p].queue.find? fun e => !r.stories[e.slot].held

/-- A take: the entry leaves the queue and its story's delivery-begun flag becomes yes (R108). -/
def Room.takeEntry (p : Fin 24) (e : QEntry) (r : Room) : Room :=
  (r.modPort p fun x => { x with queue := queueRemove e.slot x.queue }).modStory e.slot fun s => { s with begun := true }

/-- A new entry at the tail of a class, queued now, and the port in the story's pending set (R102, R114). -/
def Room.placeEntry (k : Ctx) (p : Fin 24) (slot : Fin 256) (r : Room) : Room :=
  let e : QEntry := ⟨slot, r.stories[slot].effective, k.time.seconds⟩
  (r.modPort p fun x => { x with queue := queueTail e x.queue }).modStory slot fun s =>
    { s with pendingSet := s.pendingSet.set p true }

/-- A story returned to its port's queue with the class the port kept (R109). -/
def Room.returnEntry (k : Ctx) (p : Fin 24) (slot : Fin 256) (cls : Class) (r : Room) : Room :=
  r.modPort p fun x => { x with queue := queueHead ⟨slot, cls, k.time.seconds⟩ x.queue }

/-! ## Ends of deliveries -/

/-- A completed delivery (R110): the port goes from pending to done, and a line's substitution count is added. -/
def Room.deliveryDone (k : Ctx) (p : Fin 24) (slot : Fin 256) (substitutions : Nat) (r : Room) : Room :=
  (r.modStory slot fun s =>
    { s with
      pendingSet := s.pendingSet.set p false
      doneSet := s.doneSet.set p true
      substitutions := bumpBy s.substitutions substitutions }).settleIfDone k slot

/-- A port joins a story's missed set from wherever it stood, and the story is posted MISSED (R116). -/
def Room.portMissed (p : Fin 24) (slot : Fin 256) (r : Room) : Room :=
  (r.modStory slot fun s =>
    { s with
      pendingSet := s.pendingSet.set p false
      doneSet := s.doneSet.set p false
      missedSet := s.missedSet.set p true }).postStory slot StoryKinds.ofMissed

/-- A delivery abandoned by stall (R110). -/
def Room.deliveryMissed (k : Ctx) (p : Fin 24) (slot : Fin 256) (r : Room) : Room :=
  (r.portMissed p slot).settleIfDone k slot

end Sys2Proof.Machine
end

