-- ==== Sys2Proof/Machine/Desk.lean ====
section
/-! DEFINITION. The output side of a desk port controller (chapter 10): the transmitter's two sources, banners and
withdrawal lines, takes, completion, pause, stall and stop. -/

namespace Sys2Proof.Machine

/-! ## Characters of banners and withdrawals -/

/-- A number in a fixed count of digits, with leading zeros. -/
def digits : Nat → Nat → List Nat
  | 0, _ => []
  | n + 1, v => digits n (v / 10) ++ [48 + v % 10]

/-- Hours and minutes of a seconds-of-day reading, "hh:mm" (R172). -/
def clockText (seconds : Nat) : List Nat :=
  digits 2 (seconds / 3600) ++ 58 :: digits 2 (seconds % 3600 / 60)

/-- The 23 characters of a banner: slot, class, source, serial, category and filed time, one space between (R172). A
queued story has a filed time; the part of the record that is absent for an UNHEADED story shows as dashes. -/
def bannerText (slot : Fin 256) (s : Story) : List Nat :=
  let (source, serial, category) := match s.header with
    | some h => (h.source, digits 4 h.serial, h.category)
    | none => (List.replicate 3 45, List.replicate 4 45, List.replicate 2 45)
  digits 3 slot.val ++ 32 :: s.effective.letter :: 32 :: source ++ 32 :: serial ++ 32 :: category
    ++ 32 :: clockText (s.filed.elim 0 fun t => t.seconds)

/-- The text "WITHDRAWN", a space and the three-digit slot (R177). -/
def withdrawnText (slot : Fin 256) : List Nat :=
  [87, 73, 84, 72, 68, 82, 65, 87, 78, 32] ++ digits 3 slot.val

/-! ## The transmitter -/

/-- The next character of a desk's output and the place after it (R172, R173, R177). A leading or closing return is
decided by the line-start flag at the moment its first character is sent (log entry 16), after a stall too (log entry
44). -/
def Desk.nextOutput (x : Desk) (text : List Cell) : Option (Nat × DeskOutput) :=
  let banner : List Nat → DeskPlace
    | [] => .text 0
    | rest => .banner rest
  let closing : List Nat → DeskPlace
    | [] => .finished
    | rest => .closing rest
  let story : DeskPlace → Option (Nat × DeskPlace)
    | .bannerStart chars =>
      if x.lineStart then chars.head?.map fun c => (c, banner chars.tail) else some (13, .banner (10 :: chars))
    | .banner rest => rest.head?.map fun c => (c, banner rest.tail)
    | .text pos =>
      match text[pos]? with
      | some c =>
        if c = 10 then some (13, .textFeed (pos + 1))
        else some (if c = 128 then x.settings.garble else c, .text (pos + 1))
      | none => some (13, .closing (if x.lineStart then [10] else [10, 13, 10]))
    | .textFeed pos => some (10, .text pos)
    | .closing rest => rest.head?.map fun c => (c, closing rest.tail)
    | .finished => none
  match x.output with
  | .none => none
  | .story place => (story place).map fun p => (p.1, .story p.2)
  | .withdrawalStart chars =>
    if x.lineStart then chars.head?.map fun c => (c, .withdrawal chars.tail) else some (13, .withdrawal (10 :: chars))
  | .withdrawal rest => rest.head?.map fun c => (c, .withdrawal rest.tail)

/-- A character begins on the desk's send pin; the line-start flag follows it (R170). -/
def Desk.begin (x : Desk) (c : Nat) : Desk := { x with txChar := some c, lineStart := c == 10 }

/-- The level on a desk's send pin in one of the nine bit times of a character (R168): its start, seven data elements and
stop, or mark at rest. The nine last as long as the desk's rate gives, which is not counted (log entry 3). -/
def Desk.sendPin (x : Desk) (element : Nat) : Level :=
  match x.txChar with
  | some c => elementLevel 7 c element
  | none => .mark

/-- The text of a desk's current delivery. -/
def Room.deskText (r : Room) (d : Fin 8) : List Cell :=
  match r.desks[d].current with
  | none => []
  | some x => r.stories[x.slot].text

/-- A free transmitter takes its next character: the short output list first, then the output (R170). A desk that is
OUT, or whose pause flag is set, sends nothing. -/
def Room.deskSend (d : Fin 8) (r : Room) : Room :=
  let x := r.desks[d]
  if x.txChar.isSome || x.pause || x.state == .out then r
  else match x.short with
    | c :: rest => r.modDesk d fun x => { x with short := rest }.begin c
    | [] =>
      match x.nextOutput (r.deskText d) with
      | some (c, output) => r.modDesk d fun x => { x with output := output }.begin c
      | none => r

/-- A bell, an echo or an erase: discarded whole when the flag is set or the list lacks room (R170). -/
def Room.deskShort (d : Fin 8) (codes : List Nat) (r : Room) : Room :=
  let x := r.desks[d]
  if x.pause || 16 < x.short.length + codes.length then r
  else (r.modDesk d fun x => { x with short := x.short ++ codes }).deskSend d

/-- One bell (R178). -/
def Room.deskBell (d : Fin 8) (r : Room) : Room := r.deskShort d [7]

/-- An echo, when echo is on (R178). -/
def Room.deskEcho (d : Fin 8) (codes : List Nat) (r : Room) : Room :=
  if r.desks[d].settings.echo then r.deskShort d codes else r

/-! ## Deliveries -/

/-- The desk takes an entry and its delivery begins with the banner; under pause the stall timer starts (R171). -/
def Room.deskTake (k : Ctx) (d : Fin 8) (e : QEntry) (r : Room) : Room :=
  let banner := bannerText e.slot r.stories[e.slot] ++ [13, 10]
  ((r.takeEntry (deskPort d) e).modDesk d fun x =>
    { x with
      state := .delivering, output := .story (.bannerStart banner), current := some ⟨e.slot, e.cls⟩
      stall := if x.pause then some k.time.ticks else none }).deskSend d

/-- The dispatcher tells an IDLE desk of its first eligible entry (R171). -/
def Room.tellDesk (k : Ctx) (d : Fin 8) (r : Room) : Room :=
  if r.desks[d].state = .idle then
    match r.firstEligible (deskPort d) with
    | some e => r.deskTake k d e
    | none => r
  else r

/-- The desk enters IDLE and takes its first eligible entry at once (R171). -/
def Room.deskIdle (k : Ctx) (d : Fin 8) (r : Room) : Room :=
  ((r.modDesk d fun x =>
    { x with
      state := .idle, output := .none, current := none, stall := none, buffer := [], composing := none
      clearing := false }).tellDesk
      k d).deskSend d

/-- The character in progress has ended: IDLE after RESET TRAFFIC (R182), completion at the end of the blank line's LF
(R174), the end of a withdrawal line (R177), or the next character. -/
def Room.deskEnded (k : Ctx) (d : Fin 8) (r : Room) : Room :=
  let r := r.modDesk d fun x => { x with txChar := none }
  if r.desks[d].clearing then r.deskIdle k d
  else match r.desks[d].output, r.desks[d].current with
  | .story .finished, some x =>
    let r := (r.modDesk d fun y => { y with output := .none, current := none, stall := none }).countSent (deskPort d)
    (r.deliveryDone k (deskPort d) x.slot 0).deskIdle k d
  | .withdrawal [], _ => r.deskIdle k d
  | _, _ => r.deskSend d

/-- A bell for FLASH copy that becomes eligible while the desk is COMPOSING (R181). -/
def Room.flashBell (d : Fin 8) (r : Room) : Room :=
  if r.desks[d].state = .composing ∧ r.desks[d].clearing = false then r.deskBell d else r

/-- The dispatcher tells the desk that its current delivery is cancelled (R177). -/
def Room.deskCancelled (d : Fin 8) (slot : Fin 256) (r : Room) : Room :=
  (r.modDesk d fun x =>
    { x with
      output := .withdrawalStart (withdrawnText slot ++ [13, 10]), current := none, stall := none }).deskSend d

/-! ## Pause and stall -/

/-- The pause code outside STALLED (R175). -/
def Room.deskPause (k : Ctx) (d : Fin 8) (r : Room) : Room :=
  r.modDesk d fun x =>
    if x.pause then x
    else { x with
      pause := true
      stall := match x.state, x.output with
        | .delivering, .story _ => some k.time.ticks
        | _, _ => x.stall }

/-- The resume code outside STALLED (R175): output goes on from the short output list or where the delivery stood. -/
def Room.deskResume (d : Fin 8) (r : Room) : Room :=
  if r.desks[d].pause then (r.modDesk d fun x => { x with pause := false, stall := none }).deskSend d else r

/-- The resume code in STALLED (R176). -/
def Room.deskRecover (k : Ctx) (d : Fin 8) (r : Room) : Room :=
  ((r.modDesk d fun x => { x with pause := false }).setConditions (deskPort d) fun c =>
    { c with stalled := false }).deskIdle k d

/-- The stall timer reaches the limit: the delivery is abandoned (R110, R176). -/
def Room.deskStalled (k : Ctx) (d : Fin 8) (r : Room) : Room :=
  match r.desks[d].current with
  | none => r
  | some x =>
    let r := r.modDesk d fun y =>
      { y with state := .stalled, output := .none, current := none, stall := none, pause := true }
    (r.deliveryMissed k (deskPort d) x.slot).setConditions (deskPort d) fun c => { c with stalled := true }

/-! ## Start and stop -/

/-- A desk's items at PORT START (R182); a character still in progress from before ends. -/
def Desk.started (x : Desk) : Desk where
  settings := x.settings
  state := .idle
  pause := false
  output := .none
  current := none
  short := []
  lineStart := false
  buffer := []
  composing := none
  stall := none
  txChar := x.txChar
  clearing := false

/-- A desk's items at PORT STOP (R182). -/
def Desk.stopped (x : Desk) : Desk := { x.started with state := .out, lineStart := x.lineStart }

/-- A desk's items at RESET TRAFFIC (R182): OUT when out of service; in service IDLE, after the character in progress,
until whose end its state stands and nothing else acts on it (log entry 13). -/
def Desk.cleared (x : Desk) : Desk :=
  if x.state = .out then x.stopped
  else
    let after := x.txChar.isSome && x.state != .idle
    { x.started with state := if after then x.state else .idle, lineStart := x.lineStart, clearing := after }

/-- PORT STOP of a desk, of either kind (R182): the current delivery back to the queue, a composing story
ABANDONED, STALLED removed, OUT. -/
def Room.deskStop (k : Ctx) (d : Fin 8) (r : Room) : Room :=
  let x := r.desks[d]
  let r := match x.current with
    | some y => r.returnEntry k (deskPort d) y.slot y.cls
    | none => r
  let r := (r.modDesk d Desk.stopped).modPort (deskPort d) fun p => { p with inService := false }
  let r := match x.composing with
    | some slot => r.freeStory k slot .abandoned
    | none => r
  r.setConditions (deskPort d) fun c => { c with stalled := false }

end Sys2Proof.Machine
end

