-- ==== Sys2Proof/Machine/Sender.lean ====
section
/-! DEFINITION. The line sender: chapters 7, 8 and 9. The sender sends one code at a time; `activity` says what it is
in the middle of, and `Next` what it takes up at the end of that. Each function acts on the room for one line. -/

namespace Sys2Proof.Machine

/-! ## Reads -/

/-- The line's port holds UNIDENTIFIED (R165). -/
def Room.unidentified (r : Room) (l : Fin 16) : Bool := r.ports[linePort l].conditions.unidentified

/-- The line is a BOTH line. -/
def Room.isBoth (r : Room) (l : Fin 16) : Bool := r.lines[l].settings.mode == .both

/-- The first eligible entry of the line's port, when it is of class FLASH (R143). -/
def Room.eligibleFlash (r : Room) (l : Fin 16) : Option QEntry :=
  (r.firstEligible (linePort l)).filter fun e => e.cls == .flash

/-- What follows the unit an activity belongs to. -/
def Activity.next : Activity → Option Next
  | .ret n _ _ _ _ => some n
  | .marker _ _ n => some n
  | .answer _ n => some n
  | _ => none

/-- The same activity with another continuation. -/
def Activity.withNext : Activity → Next → Activity
  | .ret _ n f c a, x => .ret x n f c a
  | .marker m rest _, x => .marker m rest x
  | .answer rest _, x => .answer rest x
  | a, _ => a

/-- Whether the activity is a return sequence. -/
def Activity.isReturn : Activity → Bool
  | .ret _ _ _ _ _ => true
  | _ => false

/-- Whether a return in progress is sent whole, and an answerback to the end of its return, before a cancel acts
(R147). -/
def Activity.finishesFirst : Activity → Bool
  | .ret _ _ _ _ _ => true
  | .answer _ _ => true
  | _ => false

/-! ## Sending codes -/

/-- The first of some codes begins and the others follow it (R123). -/
def Room.startCodes (k : Ctx) (l : Fin 16) (activity : Activity) (codes : List SendCode) (r : Room) : Room :=
  r.modSender l fun s =>
    let s := { s with activity := activity, codes := codes.tail }
    match codes with
    | [] => s
    | c :: _ => s.begin c k.time.ticks

/-- Whether an answerback is being sent: its characters, its return, or a return sent for it (R138). -/
def Activity.isAnswer : Activity → Bool
  | .answer _ _ => true
  | .ret next _ _ _ own => own || next == .answerReady || next == .answerStarting
  | _ => false

/-- A return sequence begins, reckoned from the column and the settings in force (R134, R135); `answer` says that it
ends an answerback. -/
def Room.startReturnOf (k : Ctx) (l : Fin 16) (next : Next) (answer : Bool) (r : Room) : Room :=
  let x := r.lines[l]
  let n := fillCount x.settings.charTicks x.sender.settings x.sender.column
  (r.modSender l fun s => { s with pendingSpaces := 0, inWord := s.inWord && next == .text }).startCodes k l
    (.ret next n x.sender.settings.fill x.sender.settings.refresh answer) (returnCodes n x.sender.settings.fill)

/-- A return sequence that ends no answerback begins. -/
def Room.startReturn (k : Ctx) (l : Fin 16) (next : Next) (r : Room) : Room := r.startReturnOf k l next false

/-- The end of a marker's last letter at the far end (R142): OPEN raises the far-open count, CLOSE and VOID lower it. -/
def Sender.markerEnded (s : Sender) (m : Marker) : Sender :=
  match m with
  | .opn => { s with farOpen := s.farOpen + 1, openNow := true }
  | .cls => { s with farOpen := s.farOpen - 1, openNow := false }
  | .vd => { s with farOpen := s.farOpen - 1, openNow := false }
  | _ => s

/-- Letters of a marker are sent one by one; a substituted letter counts, a dropped one sends nothing. After the
last, the marker has ended and its return follows (R125). A letter sent with no current story counts in no delivery (log
entry 47). -/
def Room.markerGo (k : Ctx) (l : Fin 16) (m : Marker) (next : Next) : List Nat → Room → Room
  | [], r => (r.modSender l fun s => s.markerEnded m).startReturn k l next
  | c :: rest, r =>
    let (codes, sub) := r.lines[l].sender.encodeLetter c
    let r := if sub then r.modSender l fun s => { s with substitutions := bump s.substitutions } else r
    if codes = [] then r.markerGo k l m next rest else r.startCodes k l (.marker m rest next) codes

/-- A marker begins, from the marker set in force (R125). -/
def Room.startMarker (k : Ctx) (l : Fin 16) (m : Marker) (next : Next) (r : Room) : Room :=
  r.markerGo k l m next (k.part.markers.letters m)

/-- Characters of the answerback, then its return sequence (R138). Its substitutions count nowhere. -/
def Room.answerGo (k : Ctx) (l : Fin 16) (next : Next) : List Nat → Room → Room
  | [], r => r.startReturnOf k l next true
  | c :: rest, r =>
    let codes := r.lines[l].sender.encodeAnswer c
    if codes = [] then r.answerGo k l next rest else r.startCodes k l (.answer rest next) codes

/-- The answerback in force begins (R138). -/
def Room.startAnswer (k : Ctx) (l : Fin 16) (next : Next) (r : Room) : Room :=
  (r.modSender l fun s => { s with answerPending := false }).answerGo k l next r.lines[l].settings.answerback

/-! ## Story text -/

/-- The text of the sender's current story. -/
def Room.currentText (r : Room) (l : Fin 16) : List Cell :=
  match r.lines[l].sender.current with
  | none => []
  | some d => r.stories[d.slot].text

/-- The text from the read position on, cell by cell, until a code begins (R124, R126–R133). Each turn passes a cell
or places a word, so twice the cells left are turns enough. -/
def Room.textGo (k : Ctx) (l : Fin 16) : Nat → Room → Room
  | 0, r => r
  | fuel + 1, r =>
    let s := r.lines[l].sender
    let cells := (r.currentText l).drop s.readPos
    let place (r : Room) : Room :=
      match placeWord s.column s.pendingSpaces (s.wordLength 0 cells) s.settings.width with
      | .fold => r.startReturn k l .text
      | .spaces n =>
        let r := r.modSender l fun s => { s with pendingSpaces := 0, inWord := true }
        if n = 0 then r.textGo k l fuel else r.startCodes k l .text (List.replicate n .space)
    match cells with
    | [] =>
      let r := r.modSender l fun s => { s with pendingSpaces := 0, inWord := false }
      if s.column = 0 then r.startMarker k l .cls .complete else r.startReturn k l .closeMarker
    | c :: rest =>
      if c = 10 then
        (r.modSender l fun s =>
          { s with readPos := s.readPos + 1, linesSent := s.linesSent + 1, inWord := false }).startReturn k l
          (.afterLine rest.isEmpty)
      else if c = 32 then
        (r.modSender l fun s =>
          { s with readPos := s.readPos + 1, pendingSpaces := s.pendingSpaces + 1, inWord := false }).textGo k l fuel
      else if c = 7 then
        if !s.inWord && bellStartsWord cells then place r
        else
          let codes := s.encodeBell
          let r := r.modSender l fun s => { s with readPos := s.readPos + 1 }
          if codes = [] then
            (r.modSender l fun s => { s with substitutions := bump s.substitutions }).textGo k l fuel
          else r.startCodes k l .text codes
      else if !s.inWord then place r
      else
        let (codes, sub) := s.encode c
        if codes != [] && s.settings.width ≤ s.column then r.startReturn k l .text
        else
          let r := r.modSender l fun s =>
            { s with readPos := s.readPos + 1, substitutions := if sub then bump s.substitutions else s.substitutions }
          if codes = [] then r.textGo k l fuel else r.startCodes k l .text codes

/-- The text of the current story is taken up at its read position (step 4 of R124). -/
def Room.sendText (k : Ctx) (l : Fin 16) (r : Room) : Room :=
  r.textGo k l (2 * ((r.currentText l).length - r.lines[l].sender.readPos) + 2)

/-! ## Taking a story -/

/-- The framing of the current story begins (R124); with the restart-VOID flag set, the VOIDs owed come first
(R150). -/
def Room.beginFraming (k : Ctx) (l : Fin 16) (r : Room) : Room :=
  let s := r.lines[l].sender
  if s.restartVoid then
    if s.column ≠ 0 then r.startReturn k l .restartVoids
    else if 0 < s.farOpen then r.startMarker k l .vd .restartVoids
    else (r.modSender l fun s => { s with restartVoid := false }).startMarker k l .opn .afterOpen
  else if s.column ≠ 0 then r.startReturn k l .openMarker
  else r.startMarker k l .opn .afterOpen

/-- The sender takes an entry and begins its story (R121). -/
def Room.takeStory (k : Ctx) (l : Fin 16) (e : QEntry) (r : Room) : Room :=
  ((r.takeEntry (linePort l) e).modSender l fun s =>
    { s with
      machine := .sending, current := some ⟨e.slot, e.cls⟩, readPos := 0, inWord := false, linesSent := 0
      pendingSpaces := 0, substitutions := 0, openNow := false, startTimer := none, idleTimer := none }).beginFraming k l

/-- The sender has no story and nothing to send in a state: its timers stop, and it has left SENDING, a safe point
(R14, R140). -/
def Sender.rest (s : Sender) (m : SendMachine) (templates : Vector Table 4) : Sender :=
  { s with
    machine := m, current := none, pendingSpaces := 0, readPos := 0, inWord := false, linesSent := 0
    substitutions := 0, openNow := false, startTimer := none, idleTimer := none, activity := .idle, codes := []
    halt := .none }.safePoint templates

/-! ## Ends of an exchange -/

/-- The exchange ends: the phase is NONE, the request flag clear; the try number and the collector stay (R155). -/
def Identify.ended (i : Identify) : Identify :=
  { i with phase := .none, request := false, timer := none, outcome := .none }

/-- The current story and a HELD story go back to the queue at the heads of their classes (R109); any suspension is
EMPTY and the sender has no current story. -/
def Room.returnStories (k : Ctx) (l : Fin 16) (r : Room) : Room :=
  let s := r.lines[l].sender
  let r := match s.current with
    | some d => r.returnEntry k (linePort l) d.slot d.cls
    | none => r
  let r := match s.suspension with
    | .held c => r.returnEntry k (linePort l) c.slot c.cls
    | _ => r
  r.modSender l fun s => { s with current := none, suspension := .empty, substitutions := 0, pendingSpaces := 0 }

/-- A failed exchange ends (R162): stories returned, VOIDs owed when the far end holds stories open, BLOCKED, with a
pending answer discarded (R138). -/
def Room.exchangeFailed (k : Ctx) (l : Fin 16) (r : Room) : Room :=
  (r.returnStories k l).modSender l fun s =>
    { s.rest .blocked k.part.templates with
      answerPending := false
      restartVoid := s.restartVoid || 0 < s.farOpen
      identify := s.identify.ended }

/-- The outcome FAILED is fixed (R162), with the number of tries in which IDENT was sent. -/
def Room.decideFailed (k : Ctx) (l : Fin 16) (sent : Nat) (r : Room) : Room :=
  let i := r.lines[l].sender.identify
  let r := if i.request then
      r.modLink fun k => k.postOutcome (.line l) .failed (.identified i.collector sent)
    else r
  let r := r.setConditions (linePort l) fun c => { c with unidentified := true }
  let r := r.modIdentify l fun i => { i with phase := .closing, outcome := .failed, timer := none }
  if 0 < sent then r.startReturn k l .exchangeClosed else r.exchangeFailed k l

/-- The outcome DONE is fixed (R161). -/
def Room.decideDone (k : Ctx) (l : Fin 16) (r : Room) : Room :=
  let i := r.lines[l].sender.identify
  let r := if i.request then
      r.modLink fun k => k.postOutcome (.line l) .done (.identified i.collector i.tryNumber)
    else r
  let r := r.setConditions (linePort l) fun c => { c with unidentified := false }
  (r.modIdentify l fun i => { i with phase := .closing, outcome := .done, timer := none }).startReturn k l
    .exchangeClosed

/-! ## The exchange -/

/-- A try begins (R159): a figures shift unless the send case is FIGURES, and IDENT; with no IDENT position nothing
is sent and the exchange is decided FAILED. -/
def Room.startTry (k : Ctx) (l : Fin 16) (r : Room) : Room :=
  let s := r.lines[l].sender
  let r := r.modIdentify l fun i =>
    { i with phase := .calling, tryNumber := i.tryNumber + 1, collector := [], timer := none }
  match s.identPos with
  | none => r.decideFailed k l s.identify.tryNumber
  | some p => r.startCodes k l .call (s.shiftFor .figures ++ [.ident p])

/-- The test of the receive side in AWAITING: HUNT with an empty window begins try 1 (R158). -/
def Room.receiveSideTest (k : Ctx) (l : Fin 16) (r : Room) : Room :=
  let x := r.lines[l]
  if x.sender.identify.phase = .awaiting ∧ x.assembler.machine = .hunt ∧ x.assembler.window = [] then r.startTry k l
  else r

/-- An exchange begins (R157): IDENTIFYING in AWAITING, any current story and suspension kept as they stand. -/
def Room.beginExchange (k : Ctx) (l : Fin 16) (r : Room) : Room :=
  (r.modSender l fun s =>
    { s with
      machine := .identifying, startTimer := none, idleTimer := none, activity := .idle, codes := []
      identify := { s.identify with phase := .awaiting, tryNumber := 0, collector := [], timer := none, outcome := .none }
      }.safePoint k.part.templates).receiveSideTest k l

/-- Whether the line's decoder output goes to the collector or is discarded (R32, R159): from the end of try 1's
IDENT until the outcome is fixed. -/
def Identify.collecting (i : Identify) : Bool :=
  i.phase == .collecting || (i.phase == .calling && 2 ≤ i.tryNumber)

/-- A cell produced while the line is collecting (R159, R160). -/
def Room.collect (k : Ctx) (l : Fin 16) (cell : Cell) (r : Room) : Room :=
  let i := r.lines[l].sender.identify
  if i.phase = .collecting ∧ i.collector.length < 40 then
    let r := r.modIdentify l fun i => { i with collector := i.collector ++ [cell] }
    if answerbackMatches r.lines[l].settings.expected r.lines[l].sender.identify.collector then r.decideDone k l else r
  else r

/-- The identify window expires without a match (R160). -/
def Room.windowExpired (k : Ctx) (l : Fin 16) (r : Room) : Room :=
  let x := r.lines[l]
  if x.sender.identify.tryNumber < x.settings.tries then r.startTry k l
  else r.decideFailed k l x.sender.identify.tryNumber

/-! ## QUIET, STARTING and READY -/

/-- Work for a sender in READY with nothing in progress (R120, R157): a PENDING exchange, or the first eligible entry
behind identify-before-send. -/
def Room.readyWork (k : Ctx) (l : Fin 16) (r : Room) : Room :=
  let s := r.lines[l].sender
  if s.identify.phase = .pending then r.beginExchange k l
  else match r.firstEligible (linePort l) with
    | none => r
    | some e =>
      if r.lines[l].settings.identifyBefore && r.isBoth l then r.beginExchange k l else r.takeStory k l e

/-- The sender enters READY and its motor idle timer starts (R120); work at hand is taken. -/
def Room.enterReady (k : Ctx) (l : Fin 16) (r : Room) : Room :=
  (r.modSender l fun s => { s.rest .ready k.part.templates with idleTimer := some k.time.ticks }).readyWork k l

/-- The next entry is taken, or the sender is READY (R121). -/
def Room.takeNext (k : Ctx) (l : Fin 16) (r : Room) : Room :=
  match r.firstEligible (linePort l) with
  | some e => r.takeStory k l e
  | none => r.enterReady k l

/-- The order of R119 once the start wait has ended and any answer has been sent. -/
def Room.started (k : Ctx) (l : Fin 16) (r : Room) : Room :=
  let x := r.lines[l]
  if (x.settings.identifyBefore || x.sender.identify.phase == .pending) && r.isBoth l then r.beginExchange k l
  else r.takeNext k l

/-- The motor start wait ends (R119): a pending answer first, behind a return when the column is not 0 (R138). -/
def Room.startWaitOver (k : Ctx) (l : Fin 16) (r : Room) : Room :=
  let x := r.lines[l]
  let r := r.modSender l fun s => { s with startTimer := none }
  if x.sender.answerPending && !x.settings.answerback.isEmpty then
    if x.sender.column = 0 then r.startAnswer k l .started
    else (r.modSender l fun s => { s with answerPending := false }).startReturn k l .answerStarting
  else (r.modSender l fun s => { s with answerPending := false }).started k l

/-- The sender enters STARTING; a start wait of 0 ends at once (R119). -/
def Room.enterStarting (k : Ctx) (l : Fin 16) (r : Room) : Room :=
  let r := r.modSender l fun s =>
    { s with machine := .starting, startTimer := some k.time.ticks, idleTimer := none }
  if r.lines[l].settings.startWait = 0 then r.startWaitOver k l else r

/-- The dispatcher tells the sender of its first eligible entry, or an exchange is asked for (R108, R119, R120,
R157). A sender with a character in progress takes nothing up. -/
def Room.tellSender (k : Ctx) (l : Fin 16) (r : Room) : Room :=
  let s := r.lines[l].sender
  if s.txChar.isSome || s.activity != .idle || s.halt != .none then r
  else match s.machine with
    | .quiet =>
      if s.identify.phase = .pending ∨ (r.firstEligible (linePort l)).isSome then r.enterStarting k l else r
    | .ready => r.readyWork k l
    | _ => r

/-- The sender enters QUIET; an entry already there starts the motor at once (R119). -/
def Room.enterQuiet (k : Ctx) (l : Fin 16) (r : Room) : Room :=
  (r.modSender l fun s => s.rest .quiet k.part.templates).tellSender k l

/-- The port goes OUT (R141, R154). Going OUT from SENDING is a safe point (R140), at a cut point where no return has
ended too (log entry 38). -/
def Room.goOut (k : Ctx) (l : Fin 16) (r : Room) : Room :=
  (r.modSender l fun s =>
    { s.rest .out k.part.templates with
      answerPending := false, suspension := .empty, farOpen := 0, restartVoid := false, stopPending := none
      }).modPort (linePort l) fun p => { p with inService := false }

/-! ## After a story -/

/-- What a sender without suspension does after a story, at the end of a return sequence (R121, R157): a PENDING
exchange, the next entry, or READY. -/
def Room.nextStory (k : Ctx) (l : Fin 16) (r : Room) : Room :=
  if r.lines[l].sender.identify.phase = .pending then r.beginExchange k l else r.takeNext k l

/-- A sender with no current story and an EMPTY suspension: OUT under a stop (R151), and otherwise R121. -/
def Room.idleOrOut (k : Ctx) (l : Fin 16) (r : Room) : Room :=
  if r.lines[l].sender.stopPending.isSome then r.goOut k l else r.nextStory k l

/-- The sender has finished with its current story (R121, R145, R151). -/
def Room.afterStory (k : Ctx) (l : Fin 16) (r : Room) : Room :=
  let s := r.lines[l].sender
  match s.suspension with
  | .empty => r.idleOrOut k l
  | x =>
    match (if s.stopPending = none then r.eligibleFlash l else none) with
    | some e => r.takeStory k l e
    | none =>
      match x with
      | .held _ => r.startMarker k l .res .afterResume
      | _ => r.startMarker k l .vd .withdrawnDone

/-- The current story completes (R110, R124). -/
def Room.completeStory (k : Ctx) (l : Fin 16) (r : Room) : Room :=
  let s := r.lines[l].sender
  match s.current with
  | none => r
  | some d =>
    ((r.modSender l fun s => { s with current := none, substitutions := 0, pendingSpaces := 0, openNow := false }).countSent
      (linePort l)).deliveryDone k (linePort l) d.slot s.substitutions

/-- Steps 2 to 4 of the cut point (R152): stories returned, VOIDs until the far-open count is 0, OUT. -/
def Room.cutPoint (k : Ctx) (l : Fin 16) (r : Room) : Room :=
  let r := r.returnStories k l
  if 0 < r.lines[l].sender.farOpen then r.startMarker k l .vd .cutPoint else r.goOut k l

/-- At a suspension point the story is broken off when the four conditions of R143 hold (R144). DESIGN CHOICE (log entry
47): the count is saved before BREAK begins, so that a substituted letter of BREAK counts in no delivery. -/
def Room.breakOff (k : Ctx) (l : Fin 16) (r : Room) : Option Room :=
  let s := r.lines[l].sender
  match s.current with
  | none => none
  | some d =>
    if d.cls ≠ .flash ∧ s.suspension = .empty ∧ s.stopPending = none ∧ (r.eligibleFlash l).isSome then
      some ((r.modSender l fun s =>
        { s with
          suspension := .held ⟨d.slot, d.cls, s.readPos, s.linesSent, s.substitutions⟩
          current := none, substitutions := 0, pendingSpaces := 0, openNow := false }).startMarker k l .brk .afterBreak)
    else none

/-- Whether any cell of some text, taken up at column 0, is sent: a line end, a bell or word cell with a position (R126,
R127, R133), or a space before a word. A word that prints is itself sent, and one of dropped cells alone is placed as of
length 0, behind its spaces (R131). Spaces with no word behind them are discarded: a line end is sent in their place, or at
the end of the text the CLOSE marker follows (R129). -/
def Sender.sendsCell (s : Sender) : List Cell → Bool
  | [] => false
  | c :: rest =>
    (if c = 10 then true
     else if c = 32 then rest.any isWordCell
     else if c = 7 then s.encodeBell != []
     else (s.encode c).1 != []) || s.sendsCell rest

/-- Text is next after a return: a PENDING exchange begins there when a cell of the text would be sent (R157). -/
def Room.textOrExchange (k : Ctx) (l : Fin 16) (r : Room) : Room :=
  let s := r.lines[l].sender
  if s.identify.phase = .pending ∧ s.sendsCell ((r.currentText l).drop s.readPos) then r.beginExchange k l
  else r.sendText k l

/-- After an answer sent from QUIET or READY: READY again (R138), or OUT under a stop (R141). -/
def Room.readyOrOut (k : Ctx) (l : Fin 16) (r : Room) : Room :=
  let r := r.modSender l fun s => { s with answerPending := false }
  if r.lines[l].sender.stopPending.isSome then r.goOut k l else r.enterReady k l

/-- After an answer sent at the end of STARTING: on as R119 gives (R138), or OUT under a stop (R141). -/
def Room.startedOrOut (k : Ctx) (l : Fin 16) (r : Room) : Room :=
  if r.lines[l].sender.stopPending.isSome then r.goOut k l else r.started k l

/-- What the end of RESUME's return, or of the return of the VOID that ends an interruption, settles at once, ahead of
any pending answer (R145, R146, R148; log entry 29): the suspended story is current again and its text comes next, or
the suspension is EMPTY. DESIGN CHOICE (log entry 47): the saved count is restored, without RESUME's substitutions. -/
def Sender.settleSuspension (s : Sender) (next : Next) : Sender × Next :=
  match next, s.suspension with
  | .afterResume, .held c =>
    ({ s with
        suspension := .empty, current := some ⟨c.slot, c.cls⟩, readPos := c.readPos, linesSent := c.linesSent
        substitutions := c.substitutions, pendingSpaces := 0, inWord := false, openNow := true }, .text)
  | .withdrawnDone, _ | .heldCancelDone, _ => ({ s with suspension := .empty }, next)
  | _, _ => (s, next)

/-- What the sender takes up. An answerback made empty during the return sent before it is not sent, nor a second return
for it (log entry 14). -/
def Room.proceed (k : Ctx) (l : Fin 16) (next : Next) (r : Room) : Room :=
  let s := r.lines[l].sender
  match next with
  | .openMarker => r.startMarker k l .opn .afterOpen
  | .afterOpen => (r.breakOff k l).getD (r.textOrExchange k l)
  | .afterLine last => if last then r.textOrExchange k l else (r.breakOff k l).getD (r.textOrExchange k l)
  | .text => r.textOrExchange k l
  | .closeMarker => r.startMarker k l .cls .complete
  | .complete => (r.completeStory k l).afterStory k l
  | .afterBreak => r.afterStory k l
  | .afterResume => r.afterStory k l
  | .restartVoids =>
    if 0 < s.farOpen then r.startMarker k l .vd .restartVoids
    else (r.modSender l fun s => { s with restartVoid := false }).startMarker k l .opn .afterOpen
  | .withdrawnDone | .heldCancelDone => r.idleOrOut k l
  | .cancelled => if s.openNow then r.startMarker k l .vd .cancelDone else r.afterStory k l
  | .cancelDone => r.afterStory k l
  | .heldCancelled => r.startMarker k l .vd .heldCancelDone
  | .cutPoint => r.cutPoint k l
  | .answerReady => if r.lines[l].settings.answerback.isEmpty then r.readyOrOut k l else r.startAnswer k l .ready
  | .answerStarting => if r.lines[l].settings.answerback.isEmpty then r.startedOrOut k l else r.startAnswer k l .started
  | .ready => r.readyOrOut k l
  | .started => r.startedOrOut k l
  | .exchangeClosed =>
    match s.identify.outcome with
    | .failed => r.exchangeFailed k l
    | _ =>
      let r := r.modSender l fun s => { s with machine := .sending, identify := s.identify.ended }
      match s.current with
      | some _ => r.sendText k l
      | none =>
        if s.openNow then r.startMarker k l .vd .cancelDone
        else r.takeNext k l

/-- Whether an answer pending at the end of a return sequence is sent there (R135): in SENDING, and at the end of an
exchange's closing return, which finds one that READY left pending (R161, log entry 29); not on an UNIDENTIFIED line
(R165), nor at a cut point (R152). -/
def Room.answerDue (l : Fin 16) (next : Next) (r : Room) : Bool :=
  let s := r.lines[l].sender
  s.answerPending && (s.machine == .sending || s.machine == .identifying) && !r.unidentified l && next != .cutPoint

/-- The end of a return sequence, the sender's safe point (R135, R136): the send case, the staged settings and a
refresh; then the cut point under CUT, where a story whose step 7 the return was completes and one in whose following
answerback the CUT came does not, for that return is the answerback's `own` (R152); or what the return settles, and a
pending answer or what comes next. With an empty answerback there is no answer to send (R137). -/
def Room.returnEnded (k : Ctx) (l : Fin 16) (next : Next) (n : Nat) (fill : FillChar) (refresh own : Bool) (r : Room) :
    Room :=
  let r := r.modSender l fun s =>
    { s with activity := .idle, case := caseAfterReturn refresh fill n s.case }.safePoint k.part.templates
  let x := r.lines[l]
  if x.sender.stopPending = some .cut ∧ x.sender.machine = .sending then
    (if next = .complete ∧ own = false then r.completeStory k l else r).cutPoint k l
  else
    let next' := (x.sender.settleSuspension next).2
    let r := r.modSender l fun s => (s.settleSuspension next).1
    if r.answerDue l next' then
      if x.settings.answerback.isEmpty then
        (r.modSender l fun s => { s with answerPending := false }).proceed k l next'
      else r.startAnswer k l next'
    else r.proceed k l next'

/-! ## Break and the other ends of a character -/

/-- A BOTH line's sender at break, its character in progress ended (R149, R163). A stop already pending takes it OUT
(R151, R152), and a restore taken before the character ended takes it to QUIET (R150). -/
def Room.breakSender (k : Ctx) (l : Fin 16) (r : Room) : Room :=
  let owed := r.lines[l].sender.machine == .sending || r.lines[l].sender.machine == .identifying
  let r := (r.returnStories k l).modSender l fun s =>
    { s.rest .blocked k.part.templates with
      answerPending := false, case := .unknown, restartVoid := s.restartVoid || (owed && 0 < s.farOpen) }
  let c := r.ports[linePort l].conditions
  if r.lines[l].sender.stopPending.isSome then r.goOut k l
  else if !c.broken && !c.unidentified then r.enterQuiet k l
  else r

/-- A sender after RESET TRAFFIC, its character in progress ended (R141, R153). -/
def Room.resetSender (k : Ctx) (l : Fin 16) (r : Room) : Room :=
  if r.lines[l].sender.stopPending.isSome then r.goOut k l
  else if r.ports[linePort l].conditions.broken then
    r.modSender l fun s => s.rest .blocked k.part.templates
  else r.enterQuiet k l

/-- A sender whose exchange a PORT STOP has cut, its character in progress ended (R163). -/
def Room.stopSender (k : Ctx) (l : Fin 16) (r : Room) : Room :=
  let r := r.modSender l fun s => { s with activity := .idle, codes := [], halt := .none }
  if r.lines[l].sender.column = 0 then r.cutPoint k l else r.startReturn k l .cutPoint

/-- A cancel acts at the end of a character of text or of a marker (R147, R148): a return when the column is not 0,
and then what the cancel calls for. A story that CLOSE's last letter has just closed gets no VOID (step 2 of R147; log
entry 48). At column 0, before the far end has the story open, no return has ended, so a
PENDING exchange does not begin and the sender acts by R121 alone (R157); a pending answer then stands, in READY too,
until the end of a return in SENDING, of an exchange's closing return or of a start wait (log entry 29). -/
def Room.cancelNow (k : Ctx) (l : Fin 16) (next : Next) (r : Room) : Room :=
  let r := r.modSender l fun s => { s with activity := .idle, codes := [], halt := .none, pendingSpaces := 0 }
  let s := r.lines[l].sender
  if s.column ≠ 0 then r.startReturn k l next
  else if next = .cancelled ∧ s.openNow = false ∧ s.suspension = .empty ∧ s.stopPending = none then r.takeNext k l
  else r.proceed k l next

/-- The unit being sent has ended: what its activity does next (R123). -/
def Room.unitEnded (k : Ctx) (l : Fin 16) (activity : Activity) (r : Room) : Room :=
  match activity with
  | .idle => r
  | .ret next n fill refresh own => r.returnEnded k l next n fill refresh own
  | .marker _ [] next => r.startReturn k l next
  | .marker m rest next => r.markerGo k l m next rest
  | .text => r.sendText k l
  | .answer rest next => r.answerGo k l next rest
  | .call => (r.modSender l fun s =>
      { s with activity := .idle, identify := { s.identify with phase := .collecting, timer := some k.time.ticks } })

/-- Whether the end of the character in progress is the cut point under CUT (R152): in SENDING at column 0, with no return
sequence in progress and the cut point not yet passed, that is with none of its own VOIDs begun. -/
def Sender.atCutPoint (s : Sender) : Bool :=
  s.stopPending == some .cut && s.machine == .sending && s.column == 0 && !s.activity.isReturn &&
    s.activity.next != some .cutPoint

/-- The character in progress has ended (R123). A marker's last letter has its effect at the far end (R142); then
comes what waited for the end of the character, the cut point at column 0 (R152), the next code, or the end of the
unit. A break that waited comes even before a completion at that end (log entry 42). A code chosen to follow a shift is
sent as it was chosen, from the old map when a refresh has come between (log entry 30). DESIGN CHOICE (log entry 46): a
marker whose remaining letters would all be dropped has not ended for what waited. DEDUCED (log entry 48): a cancel taken
within CLOSE's last letter finds the story closed and sends no VOID. -/
def Room.characterEnded (k : Ctx) (l : Fin 16) (r : Room) : Room :=
  let s := r.lines[l].sender
  let r := r.modSender l fun s =>
    let s := { s with txChar := none }
    match s.activity, s.codes with
    | .marker m [] _, [] => s.markerEnded m
    | _, _ => s
  match s.halt with
  | .broken => r.breakSender k l
  | .reset => r.resetSender k l
  | .stopped => r.stopSender k l
  | h =>
    if s.atCutPoint then
      (r.modSender l fun s => { s with activity := .idle, codes := [], halt := .none }).cutPoint k l
    else match h with
      | .cancelled => r.cancelNow k l .cancelled
      | .heldCancelled => r.cancelNow k l .heldCancelled
      | _ =>
        match s.codes with
        | c :: rest => r.modSender l fun s => { s with codes := rest }.begin c k.time.ticks
        | [] => r.unitEnded k l s.activity

/-! ## Events from outside the sender -/

/-- An answer request from the line's decoder (R137, R138, R165); one taken while an answerback is being sent, its return
included, joins it. One taken between RESET TRAFFIC and the end of the character in progress is ignored (log entry
37). DESIGN CHOICE (log entry 51): an answerback begun from QUIET leaves the idle timer stopped to the end of its return. -/
def Room.answerRequest (k : Ctx) (l : Fin 16) (r : Room) : Room :=
  let x := r.lines[l]
  if !r.isBoth l || r.unidentified l || x.settings.answerback.isEmpty || x.sender.halt == .reset
      || x.sender.halt == .broken then r
  else if x.sender.activity.isAnswer then r
  else match x.sender.machine with
    | .quiet | .ready =>
      let r := r.modSender l fun s => { s with machine := .ready, startTimer := none, idleTimer := none }
      if x.sender.column = 0 then r.startAnswer k l .ready else r.startReturn k l .answerReady
    | .starting | .sending => r.modSender l fun s => { s with answerPending := true }
    | _ => r

/-- What an exchange cut while its request waits reports (R163): the tries begun and the cells collected; a PENDING one
has begun no try (log entry 12). -/
def Identify.cutResults (i : Identify) : Results :=
  if i.phase = .pending then .identifyCut 0 [] else .identifyCut i.tryNumber i.collector

/-- A sender whose exchange is cut (R155, R163): the phase is NONE, and one that was IDENTIFYING is SENDING until the
character in progress has ended (log entry 12). -/
def Sender.cutShort (s : Sender) : Sender :=
  { s with
    machine := if s.machine = .identifying then .sending else s.machine
    identify := s.identify.ended }

/-- An exchange is cut (R163): its reply, when the request flag is set and no outcome fixed, and its end. -/
def Room.cutExchange (l : Fin 16) (r : Room) : Room :=
  let i := r.lines[l].sender.identify
  if i.phase = .none then r
  else
    let r := if i.request ∧ i.outcome = .none then
        r.modLink fun k => k.postOutcome (.line l) .cut i.cutResults
      else r
    r.modSender l Sender.cutShort

/-- The receiver of a BOTH line reports break (R149, R163). -/
def Room.senderBreak (k : Ctx) (l : Fin 16) (r : Room) : Room :=
  if r.lines[l].sender.machine = .out then r
  else
    let r := r.cutExchange l
    if r.lines[l].sender.txChar.isSome then
      r.modSender l fun s => { s with halt := if s.halt = .reset then .reset else .broken }
    else r.breakSender k l

/-- The receiver of a BOTH line reports restore (R150, R165). A sender within a character takes its new state at that
character's end. -/
def Room.senderRestore (k : Ctx) (l : Fin 16) (r : Room) : Room :=
  let s := r.lines[l].sender
  if s.machine = .blocked ∧ s.txChar = none ∧ r.unidentified l = false then r.enterQuiet k l else r

/-- A stop kind taken while one may be pending: CUT replaces DRAIN, nothing else changes (R151, R152). -/
def mergeStop (old : Option StopKind) (new : StopKind) : StopKind :=
  match old with
  | some .cut => .cut
  | _ => new

/-- PORT STOP on the send side (R151, R152, R163). A sender whose exchange it cuts is SENDING at once, so a refresh then
waits for the end of a return or for OUT (R14; log entry 12). -/
def Room.senderStop (k : Ctx) (l : Fin 16) (kind : StopKind) (r : Room) : Room :=
  let s := r.lines[l].sender
  let pend (r : Room) : Room := r.modSender l fun s => { s with stopPending := some (mergeStop s.stopPending kind) }
  match s.machine with
  | .identifying =>
    let r := pend (r.cutExchange l)
    if s.txChar.isSome then
      if s.activity.isReturn then r.modSender l fun s => { s with activity := s.activity.withNext .cutPoint }
      else r.modSender l fun s => { s with halt := if s.halt = .none then .stopped else s.halt }
    else r.stopSender k l
  | .sending => pend (r.cutExchange l)
  | _ =>
    let r := r.cutExchange l
    if s.txChar.isSome then pend r else r.goOut k l

/-- The dispatcher tells the sender that its current story is cancelled (R112, R147, R164). -/
def Room.cancelCurrent (l : Fin 16) (r : Room) : Room :=
  r.modSender l fun s =>
    let s := { s with current := none, substitutions := 0, pendingSpaces := 0 }
    if s.machine ≠ .sending ∨ s.activity.next = some .cutPoint then s
    else if s.activity.finishesFirst then { s with activity := s.activity.withNext .cancelled }
    else { s with halt := if s.halt = .none then .cancelled else s.halt }

/-- The dispatcher tells the sender that its suspended story is cancelled (R112, R148, R164): the suspension is
WITHDRAWN, and around the BREAK and RESUME markers, with no current story, the VOID follows at once. An answerback in
progress there is sent to the end of its return first, and while a cancelled FLASH's return or VOID is being sent the
suspension is WITHDRAWN as under a current story (log entry 34). -/
def Room.cancelSuspended (l : Fin 16) (r : Room) : Room :=
  r.modSender l fun s =>
    let s := { s with suspension := .withdrawn }
    if s.activity.next = some .afterBreak ∨ s.activity.next = some .afterResume then
      if s.activity.finishesFirst then { s with activity := s.activity.withNext .heldCancelled }
      else { s with halt := if s.halt = .none then .heldCancelled else s.halt }
    else s

end Sys2Proof.Machine
end

