-- ==== Sys2Proof/Machine/Filing.lean ====
section
/-! DEFINITION. From close to the queues: the hand-on of a closed story (R57), screening (R83), filing (R102), and what
the dispatcher tells the ports; the host's acts on filed copy (6.4); promotion (R106). -/

namespace Sys2Proof.Machine

/-! ## Telling ports -/

/-- The dispatcher tells a port's sender or desk controller of its first eligible entry (R108). -/
def Room.tellPort (k : Ctx) (p : Fin 24) (r : Room) : Room :=
  match portUnit p with
  | .inl l => r.tellSender k l
  | .inr d => r.tellDesk k d

/-- A FLASH entry has become eligible on a port: a desk that is COMPOSING sounds one bell (R181). -/
def Room.tellFlash (p : Fin 24) (r : Room) : Room :=
  match portUnit p with
  | .inl _ => r
  | .inr d => r.flashBell d

/-- The ports told that an entry of a story has become eligible (R108, R181). DESIGN CHOICE (log entry 45): in ascending
port number; R108 gives no order. -/
def Room.tellEligible (k : Ctx) (slot : Fin 256) : List (Fin 24) → Room → Room
  | [], r => r
  | p :: rest, r =>
    let flash := r.ports[p].queue.any fun e => e.slot == slot && e.cls == .flash && !r.stories[slot].held
    ((if flash then r.tellFlash p else r).tellPort k p).tellEligible k slot rest

/-! ## Filing -/

/-- Whether a port cannot be given an entry: a RECEIVE line, or a load of 32 (R102, R114). -/
def Room.noPlace (r : Room) (p : Fin 24) : Bool := r.receiveOnly p || 32 ≤ r.load p

/-- Each port of a destination set is missed or receives an entry, in port order (steps 2 to 4 of R102). -/
def Room.placeAll (k : Ctx) (slot : Fin 256) : List (Fin 24) → Room → Room
  | [], r => r
  | p :: rest, r =>
    (if r.noPlace p then r.portMissed p slot else r.placeEntry k p slot).placeAll k slot rest

/-- The destination set of a story with its origin port removed (R101, step 1 of R102). -/
def Story.destinations (s : Story) (part : Part) : PortSet :=
  match s.origin.bind Origin.port? with
  | some p => (part.route s.header).set p false
  | none => part.route s.header

/-- A story is filed (R102). DESIGN CHOICE (log entry 50): it is posted before the ports are told. -/
def Room.fileStory (k : Ctx) (slot : Fin 256) (r : Room) : Room :=
  let r := r.placeAll k slot (setMembers (r.stories[slot].destinations k.part))
  let r := (r.modStory slot fun s => { s with state := .filed, filed := some k.time.clock }).postStory slot
    StoryKinds.ofFiled
  let r := { r with filedCount := bump r.filedCount }
  let placed := setMembers r.stories[slot].pendingSet
  if placed = [] then r.settleStory k slot else r.tellEligible k slot placed

/-! ## Screening -/

/-- Whether a story is tested against the duplicate stack (R84). -/
def Room.tested (r : Room) (s : Story) : Bool :=
  match s.origin with
  | some (.line l) => r.lines[l].settings.dedupe
  | _ => false

/-- The keyword actions of a story (R93). -/
def Story.act (part : Part) (s : Story) : Story :=
  { s with
    effective := raised part.keywords s.keywords s.effective
    held := s.held || stopped part.keywords s.keywords }

/-- A story handed on at close is screened and filed, or discarded as a duplicate (R83). -/
def Room.screenStory (k : Ctx) (slot : Fin 256) (r : Room) : Room :=
  let r := match r.scans[slot] with
    | some scan => r.modStory slot fun s => { s with keywords := scan.edge k.part.keywords s.keywords }
    | none => r
  let r := { r with scans := r.scans.set slot none }
  let file (r : Room) : Room := (r.modStory slot fun s => s.act k.part).fileStory k slot
  match r.stories[slot].header with
  | none => file r
  | some h =>
    if r.tested r.stories[slot] && r.stack.contains h.key then r.freeStory k slot .duplicate
    else file { r with stack := pushKey r.stack h.key }

/-- A closed story is handed on (R57, R75, R180): discarded EMPTY at length 0, and otherwise counted as assembled at
its port, parsed and screened. -/
def Room.handOn (k : Ctx) (slot : Fin 256) (cause : CloseCause) (r : Room) : Room :=
  let r := r.modStory slot fun s => { s with cause := some cause, closed := true }
  if r.stories[slot].text = [] then r.freeStory k slot .empty
  else
    let r := match r.stories[slot].origin.bind Origin.port? with
      | some p => r.countAssembled p
      | none => r
    let header := parseHeader r.stories[slot].text
    (r.modStory slot fun s =>
      { s with header := header, effective := header.elim .ordinary fun h => h.cls }).screenStory k slot

/-! ## Host acts on filed copy -/

/-- STORY UNHOLD of a FILED or SETTLED story (R111). -/
def Room.unhold (k : Ctx) (slot : Fin 256) (r : Room) : Room :=
  let s := r.stories[slot]
  if s.held then
    let r := r.modStory slot fun s => { s with held := false }
    if s.state = .settled then r.reclaimTest k else r.tellEligible k slot (setMembers s.pendingSet)
  else r

/-- A cancelled story leaves one port: its entry, its current delivery or its suspended context goes, and the port is
missed (R112). -/
def Room.withdraw (slot : Fin 256) (p : Fin 24) (r : Room) : Room :=
  let current := (r.currentOf p).any fun x => x.slot == slot
  let suspended := r.suspendedOf p == some slot
  let r := r.modPort p fun x => { x with queue := queueRemove slot x.queue }
  let r := match portUnit p with
    | .inl l =>
      let r := if current then r.cancelCurrent l else r
      if suspended then r.cancelSuspended l else r
    | .inr d => if current then r.deskCancelled d slot else r
  r.portMissed p slot

/-- STORY CANCEL of a FILED story (R112). -/
def Room.cancelStory (k : Ctx) (slot : Fin 256) (r : Room) : Room :=
  ((setMembers r.stories[slot].pendingSet).foldl (fun r p => r.withdraw slot p) r).settleIfDone k slot

/-- What STORY REQUEUE does with one port of its set (R114). -/
inductive Requeued where
  | nothing
  | missed
  | added
  deriving DecidableEq, Repr

/-- The action on one port of a STORY REQUEUE (R114). -/
def Room.requeueAction (r : Room) (slot : Fin 256) (p : Fin 24) : Requeued :=
  let s := r.stories[slot]
  if s.pendingSet[p] || s.origin.bind Origin.port? == some p then .nothing
  else if r.noPlace p then .missed
  else .added

/-- STORY REQUEUE port by port, with the sets of ports added and missed so far (R114). -/
def Room.requeueAll (k : Ctx) (slot : Fin 256) : List (Fin 24) → Room × PortSet × PortSet → Room × PortSet × PortSet
  | [], x => x
  | p :: rest, (r, added, missed) =>
    match r.requeueAction slot p with
    | .nothing => Room.requeueAll k slot rest (r, added, missed)
    | .missed => Room.requeueAll k slot rest (r.portMissed p slot, added, missed.set p true)
    | .added =>
      let r := r.modStory slot fun s =>
        { s with doneSet := s.doneSet.set p false, missedSet := s.missedSet.set p false }
      Room.requeueAll k slot rest (r.placeEntry k p slot, added.set p true, missed)

/-- STORY REQUEUE of a FILED or SETTLED story: the room after it, and the sets added and missed (R114). DESIGN
CHOICE (log entry 50): it is posted before the ports are told. -/
def Room.requeue (k : Ctx) (slot : Fin 256) (dest : PortSet) (r : Room) : Room × PortSet × PortSet :=
  let (r, added, missed) := Room.requeueAll k slot (setMembers dest) (r, emptySet, emptySet)
  let ports := setMembers added
  let r :=
    if r.stories[slot].state = .settled ∧ ports ≠ [] then
      ({ r.modStory slot fun s => { s with state := .filed } with
        settled := r.settled.filter fun x => x != slot }).postStory slot StoryKinds.ofFiled
    else r
  (r.tellEligible k slot ports, added, missed)

/-! ## Promotion and mode change -/

/-- The entry of a story on a port whose age has reached the port's interval is promoted, behind those before it that
fall due at the same moment (R106, log entry 25); were it not due, nothing would happen. -/
def Room.promote (k : Ctx) (p : Fin 24) (slot : Fin 256) (r : Room) : Room :=
  match r.ports[p].queue.find? fun e => e.slot == slot && e.due k.time.seconds r.ports[p].promotion with
  | some e =>
    (r.modPort p fun x => { x with queue := (dueWith x.queue e).foldl (queuePromote k.time.seconds) x.queue }).tellPort k p
  | none => r

/-- An OUT line made a RECEIVE line: its queue empties, each story missed there, in queue order (R103, log entry 33). -/
def Room.emptyQueue (k : Ctx) (p : Fin 24) (r : Room) : Room :=
  let entries := r.ports[p].queue
  entries.foldl (fun r e => r.deliveryMissed k p e.slot) (r.modPort p fun x => { x with queue := [] })

end Sys2Proof.Machine
end

