-- ==== Sys2Proof/Machine/Assembler.lean ====
section
/-! DEFINITION. The story assembler of a line (chapter 3) with its holding FIFO (2.5): the marker matcher, marker
effects, story text, inactivity, break, restore, stop and start. -/

namespace Sys2Proof.Machine

/-- The markers the matcher tests against (R45). -/
def activeMarkers : ReceiveMachine → Bool → List Marker
  | .hunt, false => [.opn]
  | .hunt, true => [.opn, .res, .vd]
  | .story, false => [.cls, .opn, .brk, .vd]
  | .story, true => [.cls, .opn, .vd]
  | _, _ => []

/-- The text so far of a line's story that is current: its chain's cells and those in the holding FIFO (R53). -/
def Room.soFar (r : Room) (l : Fin 16) (slot : Fin 256) : Nat :=
  r.stories[slot].text.length + r.lines[l].assembler.fifo.length

/-- A story is at a line start when its text so far is empty or ends with a line end (R53). -/
def Room.atLineStart (r : Room) (l : Fin 16) (slot : Fin 256) : Bool :=
  match r.lines[l].assembler.fifo.getLast? with
  | some c => c == 10
  | none => r.stories[slot].text.getLast?.all fun c => c == 10

/-! ## The holding FIFO -/

/-- The holding FIFO empties because its story stops being current: the cells are counted as overruns or not, and the
port leaves the wait list (R35). -/
def Room.dropFifo (l : Fin 16) (counted : Bool) (r : Room) : Room :=
  let a := r.lines[l].assembler
  let n := a.fifo.length
  let r := match a.current with
    | some slot =>
      if counted then
        (r.modStory slot fun s => { s with overruns := bumpBy s.overruns n }).countOverruns (linePort l) n
      else r
    | none => r
  (r.modAssembler l fun a => { a with fifo := [] }).leaveWait l

/-- A garble mark taken into a story's text is counted (R53), without bound (log entry 40). -/
def Room.countTextGarble (slot : Fin 256) (c : Cell) (r : Room) : Room :=
  if c = 128 then r.modStory slot fun s => { s with garbles := s.garbles + 1 } else r

/-- A cell bound for the current story's text is written to the chain, held in the FIFO, or dropped as an overrun
(R34). -/
def Room.holdOrWrite (k : Ctx) (l : Fin 16) (slot : Fin 256) (c : Cell) (r : Room) : Room :=
  let s := r.stories[slot]
  let held (r : Room) : Room :=
    (r.modAssembler l fun a => { a with fifo := a.fifo ++ [c] }).countTextGarble slot c
  if r.waitList[l] then
    if r.lines[l].assembler.fifo.length < 8 then held r
    else (r.modStory slot fun s => { s with overruns := bump s.overruns }).countOverruns (linePort l) 1
  else if s.text.length < 64 * s.chain.length then (r.writeCell k slot c).countTextGarble slot c
  else if 0 < r.freeCount then ((r.allocate k slot).writeCell k slot c).countTextGarble slot c
  else
    held ({ r with waitList := r.waitList.set l true }.setConditions (linePort l) fun c => { c with waiting := true })

/-! ## Closing -/

/-- The current story is closed with a cause; the event sets the receive machine (R57). -/
def Room.closeCurrent (k : Ctx) (l : Fin 16) (cause : CloseCause) (r : Room) : Room :=
  match r.lines[l].assembler.current with
  | none => r
  | some slot =>
    ((r.dropFifo l true).modAssembler l fun a => { a with current := none, machine := .hunt }).handOn k slot cause

/-- The suspended story is closed with a cause (R57). -/
def Room.closeSuspended (k : Ctx) (l : Fin 16) (cause : CloseCause) (r : Room) : Room :=
  match r.lines[l].assembler.suspended with
  | none => r
  | some slot => (r.modAssembler l fun a => { a with suspended := none }).handOn k slot cause

/-! ## Story text and released cells -/

/-- The cells held in the matcher window are released to the stray count, and the window empties (R53). -/
def Room.strayWindow (l : Fin 16) (r : Room) : Room :=
  r.lines[l].assembler.window.foldl (fun r c => r.countStray (linePort l) c)
    (r.modAssembler l fun a => { a with window := [] })

/-- A cell released in STORY is appended to the current story's text (R53). -/
def Room.appendLine (k : Ctx) (l : Fin 16) (c : Cell) (r : Room) : Room :=
  match r.lines[l].assembler.current with
  | none => r
  | some slot =>
    if c = 10 ∧ r.soFar l slot = 0 then r
    else if r.lines[l].settings.maxLength ≤ r.soFar l slot then
      ((r.closeCurrent k l .overlong).countStray (linePort l) c).strayWindow l
    else r.holdOrWrite k l slot c

/-- A released cell goes to the current story in STORY and to the stray count in HUNT (R44). -/
def Room.releaseCell (k : Ctx) (l : Fin 16) (c : Cell) (r : Room) : Room :=
  match r.lines[l].assembler.machine with
  | .story => r.appendLine k l c
  | .hunt => r.countStray (linePort l) c
  | _ => r

/-- The held cells are released, oldest first, until the window is empty (R43, R54, R55). -/
def Room.releaseGo (k : Ctx) (l : Fin 16) : Nat → Room → Room
  | 0, r => r
  | n + 1, r =>
    match r.lines[l].assembler.window with
    | [] => r
    | c :: rest => ((r.modAssembler l fun a => { a with window := rest }).releaseCell k l c).releaseGo k l n

/-- Every held cell is released. -/
def Room.releaseWindow (k : Ctx) (l : Fin 16) (r : Room) : Room :=
  r.releaseGo k l r.lines[l].assembler.window.length

/-- An assembler whose window is empty matches against the marker set in force (R42). -/
def Room.adoptMarkers (k : Ctx) (l : Fin 16) (r : Room) : Room :=
  r.modAssembler l fun a => if a.window = [] then { a with markers := k.part.markers } else a

/-! ## Marker effects -/

/-- The current story gets a line end when it is not at a line start and the line end fits (R49, R51). DESIGN CHOICE (log
entry 52): one that finds the holding FIFO full is dropped and counted as any cell is by R34, though the worked example of
2.5 does not count it. -/
def Room.endLine (k : Ctx) (l : Fin 16) (slot : Fin 256) (r : Room) : Room :=
  if r.atLineStart l slot || r.lines[l].settings.maxLength ≤ r.soFar l slot then r else r.holdOrWrite k l slot 10

/-- OPEN asks the directory for a slot (R47). -/
def Room.markerOpen (k : Ctx) (l : Fin 16) (r : Room) : Room :=
  match r.openSlot with
  | some slot =>
    ((r.openStory k slot (.line l) r.lines[l].settings.maxLength).modAssembler l fun a =>
      { a with current := some slot, machine := .story }).setConditions (linePort l) fun c =>
      { c with directoryFull := false }
  | none =>
    (r.modAssembler l fun a => { a with machine := .hunt }).setConditions (linePort l) fun c =>
      { c with directoryFull := true }

/-- CLOSE ends the current story (R49). -/
def Room.markerClose (k : Ctx) (l : Fin 16) (r : Room) : Room :=
  match r.lines[l].assembler.current with
  | none => r
  | some slot => (r.endLine k l slot).closeCurrent k l .closed

/-- BREAK suspends the current story (R50). -/
def Room.markerBreak (l : Fin 16) (r : Room) : Room :=
  (r.dropFifo l true).modAssembler l fun a => { a with suspended := a.current, current := none, machine := .hunt }

/-- RESUME makes the suspended story current again, at the start of a text line (R51). -/
def Room.markerResume (k : Ctx) (l : Fin 16) (r : Room) : Room :=
  match r.lines[l].assembler.suspended with
  | none => r
  | some slot =>
    let r := r.modAssembler l fun a => { a with current := some slot, suspended := none, machine := .story }
    if r.atLineStart l slot then r
    else if r.lines[l].settings.maxLength ≤ r.soFar l slot then r.closeCurrent k l .overlong
    else r.holdOrWrite k l slot 10

/-- VOID discards the current story in STORY and the suspended story in HUNT (R52). -/
def Room.markerVoid (k : Ctx) (l : Fin 16) (r : Room) : Room :=
  let a := r.lines[l].assembler
  match a.machine, a.current, a.suspended with
  | .story, some slot, _ =>
    ((r.dropFifo l false).modAssembler l fun a => { a with current := none, machine := .hunt }).freeStory k slot .voided
  | .hunt, _, some slot => (r.modAssembler l fun a => { a with suspended := none }).freeStory k slot .voided
  | _, _, _ => r

/-- A matched marker takes effect, and the skip flag is set after it (R46–R52). -/
def Room.markerMatched (k : Ctx) (l : Fin 16) (m : Marker) (r : Room) : Room :=
  let r := match m with
    | .opn => (r.closeCurrent k l .unterminated).markerOpen k l
    | .cls => r.markerClose k l
    | .brk => r.markerBreak l
    | .res => r.markerResume k l
    | .vd => r.markerVoid k l
  r.modAssembler l fun a => { a with skip := true }

/-! ## The matcher -/

/-- The window is tested: a match is consumed and takes effect, a proper prefix is held, and otherwise the oldest cell
is released and the rest tested again (R43). -/
def Room.matchGo (k : Ctx) (l : Fin 16) : Nat → Room → Room
  | 0, r => r
  | n + 1, r =>
    let a := r.lines[l].assembler
    let active := activeMarkers a.machine a.suspended.isSome
    let folded := a.window.map upper
    match a.window with
    | [] => r
    | c :: rest =>
      match active.find? fun m => a.markers.letters m == folded with
      | some m => (r.modAssembler l fun a => { a with window := [] }).markerMatched k l m
      | none =>
        if active.any fun m => folded.isPrefixOf (a.markers.letters m) then r
        else ((r.modAssembler l fun a => { a with window := rest }).releaseCell k l c).matchGo k l n

/-- A cell offered to the matcher (R43). -/
def Room.offerCell (k : Ctx) (l : Fin 16) (c : Cell) (r : Room) : Room :=
  if c = 10 then (r.releaseWindow k l).releaseCell k l 10
  else
    let r := r.modAssembler l fun a => { a with window := a.window ++ [c] }
    r.matchGo k l (r.lines[l].assembler.window.length + 1)

/-- A cell or line end given to the assembler: dropped while the skip flag is set, which the first line end clears
(R46), and otherwise offered to the matcher. The receive side is then tested for an exchange (R158). -/
def Room.assemble (k : Ctx) (l : Fin 16) (c : Cell) (r : Room) : Room :=
  let a := r.lines[l].assembler
  let r :=
    if a.machine ≠ .hunt ∧ a.machine ≠ .story then r
    else if a.skip then r.modAssembler l fun a => { a with skip := c != 10 }
    else r.offerCell k l c
  (r.adoptMarkers k l).receiveSideTest k l

/-- An activity report restarts the inactivity timer in HUNT and STORY (R54). -/
def Room.activity (k : Ctx) (l : Fin 16) (r : Room) : Room :=
  r.modAssembler l fun a =>
    if a.machine = .hunt ∨ a.machine = .story then { a with timer := some k.time.ticks } else a

/-! ## Inactivity, break, restore, stop, start -/

/-- The inactivity timer expires (R54). -/
def Room.inactive (k : Ctx) (l : Fin 16) (r : Room) : Room :=
  let story := r.lines[l].assembler.machine == .story
  let r := (r.releaseWindow k l).modAssembler l fun a => { a with skip := false }
  let r :=
    if story then
      (r.closeCurrent k l .timedOut).modAssembler l fun a => { a with machine := .hunt, timer := some k.time.ticks }
    else (r.closeSuspended k l .unterminated).modAssembler l fun a => { a with timer := none }
  (r.adoptMarkers k l).receiveSideTest k l

/-- The receiver reports break (R55), or PORT STOP acts as at break (R56): held cells released, the skip flag clear,
the current and then the suspended story closed TRUNCATED, and the receive machine in the state given. -/
def Room.truncate (k : Ctx) (l : Fin 16) (m : ReceiveMachine) (r : Room) : Room :=
  let r := (r.releaseWindow k l).modAssembler l fun a => { a with skip := false }
  let r := (r.closeCurrent k l .truncated).closeSuspended k l .truncated
  (r.modAssembler l fun a => { a with machine := m, timer := none }).adoptMarkers k l

/-- An assembler started in HUNT, at PORT START and at restore (R38, R55). -/
def Assembler.hunt (k : Ctx) : Assembler where
  machine := .hunt
  window := []
  markers := k.part.markers
  skip := false
  current := none
  suspended := none
  timer := some k.time.ticks
  fifo := []

/-- A lowered maximum story length closes the stories that exceed it (R40). In HUNT the window's cells are strays; when
the suspended story alone is closed in STORY they go to the current story, the destination R44 gives. -/
def Room.lowerLength (k : Ctx) (l : Fin 16) (r : Room) : Room :=
  let limit := r.lines[l].settings.maxLength
  let r := match r.lines[l].assembler.current with
    | some slot => if limit < r.soFar l slot then (r.closeCurrent k l .overlong).strayWindow l else r
    | none => r
  let r := match r.lines[l].assembler.suspended with
    | some slot =>
      if limit < r.stories[slot].text.length then (r.releaseWindow k l).closeSuspended k l .overlong else r
    | none => r
  (r.adoptMarkers k l).receiveSideTest k l

end Sys2Proof.Machine
end

