-- ==== Sys2Proof/Machine/Receive.lean ====
section
/-! DEFINITION. The line receiver (2.2, 2.3) and the line decoder (2.4). -/

namespace Sys2Proof.Machine

/-! ## Decoder output -/

/-- An item of the decoder's output goes to the assembler, or to the identify collector while the line is collecting,
when a line end is discarded (R32). -/
def Room.output (k : Ctx) (l : Fin 16) (c : Cell) (r : Room) : Room :=
  if r.lines[l].sender.identify.collecting then
    if c = 10 then r else r.collect k l c
  else r.assemble k l c

/-- The decoder passes its safe point (R13, R29, R33). -/
def Room.decoderSafe (k : Ctx) (l : Fin 16) (r : Room) : Room :=
  r.modDecoder l fun d => d.safePoint k.part.templates

/-- A line end that ends the text line in progress: produced, the blank-line count 0, and the safe point (R29). -/
def Room.endTextLine (k : Ctx) (l : Fin 16) (r : Room) : Room :=
  ((r.modDecoder l fun d => { d with returnSeen := false, inLine := false, blankLines := 0 }).output k l 10).decoderSafe
    k l

/-- A line feed (R29). -/
def Room.lineFeed (k : Ctx) (l : Fin 16) (r : Room) : Room :=
  let d := r.lines[l].decoder
  if d.inLine then r.endTextLine k l
  else if d.blankLines < 2 then
    ((r.modDecoder l fun d => { d with returnSeen := false, blankLines := d.blankLines + 1 }).output k l 10).decoderSafe
      k l
  else (r.modDecoder l fun d => { d with returnSeen := false }).decoderSafe k l

/-- The line end inserted before a code that moves the far carriage after an unpaired return (R28). -/
def Room.insertLineEnd (k : Ctx) (l : Fin 16) (r : Room) : Room :=
  if r.lines[l].decoder.returnSeen then r.endTextLine k l else r

/-- A cell that starts a text line (R27, R30, R31). A text line begun leaves no empty line counted, as the worked
example of 2.4 shows. -/
def Room.textCell (k : Ctx) (l : Fin 16) (c : Cell) (r : Room) : Room :=
  (r.modDecoder l fun d => { d with inLine := true, blankLines := 0 }).output k l c

/-- A garble mark, counted (R31). -/
def Room.garbleMark (k : Ctx) (l : Fin 16) (r : Room) : Room := (r.countGarble (linePort l)).textCell k l 128

/-- Space (R27, R28); the unshift follows the cell. -/
def Room.spaceCode (k : Ctx) (l : Fin 16) (r : Room) : Room :=
  ((r.insertLineEnd k l).textCell k l 32).modDecoder l fun d =>
    if d.unshift then { d with case := .letters } else d

/-- The output of an entry (R30). A position that holds no entry gives nothing. -/
def Room.entryOutput (k : Ctx) (l : Fin 16) (e : Option Entry) (r : Room) : Room :=
  match e with
  | some (.print v) => r.textCell k l v
  | some .nothing => r.garbleMark k l
  | some .bell => r.textCell k l 7
  | some .ident => r.answerRequest k l
  | none => r

/-- A table code (R28, R30). An entry that moves the carriage first brings the inserted line end, a safe point after
which the code is decoded with the new copy (R13). -/
def Room.tableCode (k : Ctx) (l : Fin 16) (code : Fin 32) (r : Room) : Room :=
  match r.lines[l].decoder.lookup code with
  | some (.print _) | some .nothing =>
    let r := r.insertLineEnd k l
    r.entryOutput k l (r.lines[l].decoder.lookup code)
  | e => r.entryOutput k l e

/-- A line code taken by the decoder (R26–R30). -/
def Room.decode (k : Ctx) (l : Fin 16) (code : Fin 32) (r : Room) : Room :=
  match code.val with
  | 0 => r
  | 2 => r.lineFeed k l
  | 4 => r.spaceCode k l
  | 8 => r.modDecoder l fun d => { d with returnSeen := d.returnSeen || d.inLine }
  | 27 => r.modDecoder l fun d => { d with case := .figures }
  | 31 => r.modDecoder l fun d => { d with case := .letters }
  | _ => r.tableCode k l code

/-- A line code or a framing error is counted, reported as activity unless the line is collecting as it comes, and
decoded (R20, R26, R32); a code that ends the collecting reports none (log entry 31). -/
def Room.delivered (k : Ctx) (l : Fin 16) (code : Option (Fin 32)) (r : Room) : Room :=
  let r := r.countCharacter (linePort l)
  let r := if r.lines[l].sender.identify.collecting then r else r.activity k l
  match code with
  | some c => r.decode k l c
  | none => (r.insertLineEnd k l).garbleMark k l

/-! ## The receiver -/

/-- The level at a sample; a level other than the one last known is a transition no later than the sample. -/
def Receiver.sample (x : Receiver) (level : Level) (tick : Nat) : Receiver :=
  match level with
  | .mark => { x with pin := .mark, space := none }
  | .space => { x with pin := .space, space := if x.space.isSome then x.space else some tick }

/-- The stop sample (R20, R21). -/
def Room.stopSample (k : Ctx) (l : Fin 16) (code : Fin 32) (stop : Level) (r : Room) : Room :=
  let r := r.modReceiver l fun x => { x.sample stop k.time.ticks with state := .waiting }
  match stop with
  | .mark => r.delivered k l (some code)
  | .space => if code = 0 then r else r.delivered k l none

/-- A false start (R19). -/
def Receiver.falseStart (x : Receiver) : Receiver := { x with state := .waiting, pin := .mark, space := none }

/-- A mark-to-space transition: a start edge in WAITING (R19), the start of continuous space (R22), the end of
continuous mark (R24). -/
def Receiver.spaceEdge (x : Receiver) (tick : Nat) : Receiver :=
  match x.state with
  | .off => { x with pin := .space }
  | .waiting => { x with pin := .space, state := .framing, edge := tick, space := some tick }
  | .framing => { x with pin := .space, space := some tick }
  | .broken => { x with pin := .space, mark := none }

/-- A space-to-mark transition: the end of continuous space (R22), the start of continuous mark (R24). -/
def Receiver.markEdge (x : Receiver) (tick : Nat) : Receiver :=
  match x.state with
  | .off => { x with pin := .mark }
  | .waiting => { x with pin := .mark, space := none }
  | .framing => { x with pin := .mark, space := none }
  | .broken => { x with pin := .mark, mark := some tick }

/-- The decoder at break (R23). -/
def Decoder.broken (d : Decoder) (templates : Vector Table 4) : Decoder :=
  { d with returnSeen := false, inLine := false }.safePoint templates

/-- The decoder at restore (R24). -/
def Decoder.restored (d : Decoder) : Decoder :=
  { d with case := .letters, returnSeen := false, inLine := false, blankLines := 0 }

/-- The receiver enters BROKEN and reports the break (R23). -/
def Room.lineBroken (k : Ctx) (l : Fin 16) (r : Room) : Room :=
  let r := r.modReceiver l fun x => { x with state := .broken, space := none, mark := none }
  let r := r.setConditions (linePort l) fun c => { c with broken := true }
  let r := r.modDecoder l fun d => d.broken k.part.templates
  let r := r.truncate k l .broken
  if r.isBoth l then r.senderBreak k l else r

/-- The line is restored (R24). -/
def Room.lineRestored (k : Ctx) (l : Fin 16) (r : Room) : Room :=
  let r := r.modReceiver l fun x => { x with state := .waiting, space := none, mark := none }
  let r := r.setConditions (linePort l) fun c => { c with broken := false }
  let r := (r.modDecoder l Decoder.restored).modAssembler l fun _ => Assembler.hunt k
  if r.isBoth l then r.senderRestore k l else r

/-! ## Start and stop of the receive side -/

/-- A receiver at PORT START (R19, R22, R36). -/
def Receiver.start (x : Receiver) (mode : Mode) (tick : Nat) : Receiver :=
  if mode = .send then { x with state := .off, space := none, mark := none }
  else { x with state := .waiting, space := if x.pin = .space then some tick else none, mark := none }

/-- A receiver at PORT STOP (R25). -/
def Receiver.stop (x : Receiver) : Receiver := { x with state := .off, space := none, mark := none }

/-- A decoder at PORT START (R15, R33, R36). -/
def Decoder.start (d : Decoder) (templates : Vector Table 4) : Decoder where
  side := d.side.take templates
  case := .letters
  returnSeen := false
  inLine := false
  blankLines := 0
  unshift := d.stagedUnshift.getD d.unshift
  stagedUnshift := none

/-- A decoder at PORT STOP: its state cleared but for the receive case and the staged unshift value, and a pending
refresh done at once (R15, R36). -/
def Decoder.stop (d : Decoder) (templates : Vector Table 4) : Decoder :=
  { d with side := d.side.refreshed templates, returnSeen := false, inLine := false, blankLines := 0 }

/-- The receive side of a line at PORT STOP (R25, R36, R56). -/
def Room.stopReceive (k : Ctx) (l : Fin 16) (r : Room) : Room :=
  let r := (r.modReceiver l Receiver.stop).modDecoder l fun d => d.stop k.part.templates
  (r.truncate k l .off).setConditions (linePort l) fun c => { c with broken := false, directoryFull := false }

end Sys2Proof.Machine
end

