-- ==== Sys2Proof/Machine/Setup.lean ====
section
/-! DEFINITION. PORT SETUP (R190, R191): the fields by their numbers, their ranges, and what each does on a line or a
desk. -/

namespace Sys2Proof.Machine

/-! ## Field values -/

/-- An on or off value (R184). -/
def onOff (n : Nat) : Option Bool :=
  match n with
  | 0 => some false
  | 1 => some true
  | _ => none

/-- A mode by its number (R17). -/
def modeOf (n : Nat) : Option Mode :=
  match n with
  | 0 => some .receive
  | 1 => some .send
  | 2 => some .both
  | _ => none

/-- A stop length by its number (R17). -/
def stopLengthOf (n : Nat) : Option StopLength :=
  match n with
  | 0 => some .one
  | 1 => some .oneAndHalf
  | 2 => some .two
  | _ => none

/-- A fill character by its number (R122). -/
def fillCharOf (n : Nat) : Option FillChar :=
  match n with
  | 0 => some .blank
  | 1 => some .letters
  | _ => none

/-- A desk control code: office 0–31 or 127 (R167). -/
def isControl (n : Nat) : Bool := n ≤ 31 || n = 127

/-- A string of at most 20 office characters 32–126 (R122, R155). -/
def isAnswerback (t : List Nat) : Bool := t.length ≤ 20 && t.all isPrinting

/-- A number within a range. -/
def inRange (lo hi n : Nat) : Bool := lo ≤ n && n ≤ hi

/-- Whether a field exists, by the numbers of R190, on a line port: fields 0–21. -/
def isLineField (f : Nat) : Bool := f ≤ 21

/-- Whether a field exists on a desk port: the maximum story length, the promotion interval and fields 22–30. -/
def isDeskField (f : Nat) : Bool := f = 5 || f = 21 || inRange 22 30 f

/-- Whether a field's value is within its range (R9, R17, R40, R84, R107, R122, R155, R167). -/
def settingValid (s : Setting) : Bool :=
  match s.field with
  | 0 => s.num < 3
  | 1 => s.num < 5
  | 2 => s.num < 3
  | 3 => s.num < 2
  | 4 => s.num < 4
  | 5 => inRange 256 16384 s.num
  | 6 => inRange 5 600 s.num
  | 7 => s.num < 2
  | 8 => inRange 20 96 s.num
  | 9 => s.num ≤ 2000
  | 10 => s.num ≤ 7
  | 11 => s.num < 2
  | 12 => s.num < 2
  | 13 => isPrinting s.num
  | 14 => s.num ≤ 5000
  | 15 => inRange 10 600 s.num
  | 16 => isAnswerback s.text
  | 17 => s.num < 2
  | 18 => isAnswerback s.text
  | 19 => inRange 500 5000 s.num
  | 20 => inRange 1 3 s.num
  | 21 => s.num ≤ 60
  | 22 => s.num < 4
  | 23 | 24 | 25 | 26 | 27 => isControl s.num
  | 28 => s.num < 2
  | 29 => inRange 5 300 s.num
  | 30 => isPrinting s.num
  | _ => false

/-! ## Desks -/

/-- A desk's settings with one field written (R167). -/
def DeskSettings.write (x : DeskSettings) (s : Setting) : DeskSettings :=
  match s.field with
  | 5 => { x with maxLength := s.num }
  | 22 => { x with rate := Fin.ofNat 4 s.num }
  | 23 => { x with pauseCode := s.num }
  | 24 => { x with resumeCode := s.num }
  | 25 => { x with fileCode := s.num }
  | 26 => { x with cancelCode := s.num }
  | 27 => { x with rubout := s.num }
  | 28 => { x with echo := s.num == 1 }
  | 29 => { x with stallLimit := s.num }
  | 30 => { x with garble := s.num }
  | _ => x

/-- The five control codes of a desk. -/
def DeskSettings.codes (x : DeskSettings) : List Nat :=
  [x.pauseCode, x.resumeCode, x.fileCode, x.cancelCode, x.rubout]

/-- Whether a list of numbers holds none twice. -/
def distinct : List Nat → Bool
  | [] => true
  | a :: rest => !rest.contains a && distinct rest

/-- The control codes all differ and none is 10 or 13 (R167). -/
def DeskSettings.codesAgree (x : DeskSettings) : Bool :=
  distinct x.codes && !x.codes.contains 10 && !x.codes.contains 13

/-! ## The checks of R191 -/

/-- Steps 1 and 2 for a line: known fields of a line, each once, each value in its range. -/
def lineSettingsValid (l : List Setting) : Bool :=
  l.all (fun s => isLineField s.field && settingValid s) && distinct (l.map fun s => s.field)

/-- Steps 1 and 2 for a desk, with the control codes it would hold. -/
def deskSettingsValid (x : DeskSettings) (l : List Setting) : Bool :=
  l.all (fun s => isDeskField s.field && settingValid s) && distinct (l.map fun s => s.field)
    && (l.foldl DeskSettings.write x).codesAgree

/-- Step 3: mode, rate code or stop length of a line, or the rate of a desk (R191). -/
def fixedInService (s : Setting) : Bool := s.field ≤ 2 || s.field = 22

/-! ## Lines -/

/-- The value to stage: none when it equals the value in force (R140). -/
def stagedValue {α : Type} [DecidableEq α] (inForce v : α) : Option α := if v = inForce then none else some v

/-- The staged send settings with one field staged (R140). -/
def StagedSend.stage (g : StagedSend) (x : SendSettings) (s : Setting) : StagedSend :=
  match s.field with
  | 3 => { g with unshift := stagedValue x.unshift (s.num == 1) }
  | 8 => { g with width := stagedValue x.width s.num }
  | 9 => { g with allowance := stagedValue x.allowance s.num }
  | 10 => { g with minFill := stagedValue x.minFill s.num }
  | 11 => { g with fill := stagedValue x.fill (if s.num = 1 then .letters else .blank) }
  | 12 => { g with refresh := stagedValue x.refresh (s.num == 1) }
  | 13 => { g with substitution := stagedValue x.substitution s.num }
  | _ => g

/-- A field written in force on a sender that is out of service: staged, then applied at once, so that no staged value
of the field remains (R139). Staged values of other fields stay. -/
def Sender.writeField (x : Sender) (s : Setting) : Sender :=
  let g := StagedSend.none.stage x.settings s
  let kept := match s.field with
    | 3 => { x.staged with unshift := none }
    | 8 => { x.staged with width := none }
    | 9 => { x.staged with allowance := none }
    | 10 => { x.staged with minFill := none }
    | 11 => { x.staged with fill := none }
    | 12 => { x.staged with refresh := none }
    | 13 => { x.staged with substitution := none }
    | _ => x.staged
  { x with settings := x.settings.apply g, staged := kept }

/-- A staged send field of a line: in force at once out of service, and otherwise staged on the sender, which applies it
at once in any state but SENDING, in the middle of a return too (R139, R140; log entry 54). -/
def Room.setSendField (k : Ctx) (l : Fin 16) (s : Setting) (r : Room) : Room :=
  if r.ports[linePort l].inService then
    r.modSender l fun x => { x with staged := x.staged.stage x.settings s }.settle k.part.templates
  else r.modSender l fun x => x.writeField s

/-- Unshift-on-space on the decoder (R33, R139). -/
def Room.setUnshift (k : Ctx) (l : Fin 16) (v : Bool) (r : Room) : Room :=
  if r.ports[linePort l].inService then
    r.modDecoder l fun d => (d.stageUnshift v).settle k.part.templates
  else r.modDecoder l fun d => { d with unshift := v, stagedUnshift := none }

/-- The table number, on both sides (R9; log entry 54 for a sender in the middle of a return). -/
def Room.setTable (k : Ctx) (l : Fin 16) (n : Fin 4) (r : Room) : Room :=
  if r.ports[linePort l].inService then
    (r.modDecoder l fun d => { d with side := d.side.stage n }.settle k.part.templates).modSender l fun x =>
      { x with side := x.side.stage n }.settle k.part.templates
  else
    (r.modDecoder l fun d => { d with side := d.side.force n }).modSender l fun x => { x with side := x.side.force n }

/-- The mode of a line that is OUT; a RECEIVE line's queue empties (R17, R103). -/
def Room.setMode (k : Ctx) (l : Fin 16) (m : Mode) (r : Room) : Room :=
  let r := r.modLine l fun x => { x with settings := { x.settings with mode := m } }
  if m = .receive then r.emptyQueue k (linePort l) else r

/-- A line's settings, held once, changed. -/
def Room.modSettings (r : Room) (l : Fin 16) (f : LineSettings → LineSettings) : Room :=
  r.modLine l fun x => { x with settings := f x.settings }

/-- Whether a running timer has reached a setting in ticks (R80). -/
def timerPast (k : Ctx) (timer : Option Nat) (ticks : Nat) : Bool := timer.any fun t => t + ticks ≤ k.time.ticks

/-- The length limit of a line's current and suspended stories follows the setting, but for a story already longer than
it, which is about to be closed and keeps the limit it was written under (R40, R61, log entry 35). -/
def Room.followLimit (l : Fin 16) (r : Room) : Room :=
  let a := r.lines[l].assembler
  let limit := r.lines[l].settings.maxLength
  let set (length : Fin 256 → Nat) (x : Option (Fin 256)) (r : Room) : Room :=
    match x with
    | some slot => if length slot ≤ limit then r.modStory slot fun s => { s with limit := limit } else r
    | none => r
  set (fun slot => r.stories[slot].text.length) a.suspended (set (r.soFar l) a.current r)

/-- The maximum story length of a line (R40, R61): the stories within it follow the setting, and those longer than it are
then closed, with the limit they were written under, so that no length exceeds its limit (log entry 35). -/
def Room.setLength (k : Ctx) (l : Fin 16) (n : Nat) (r : Room) : Room :=
  ((r.modSettings l fun x => { x with maxLength := n }).followLimit l).lowerLength k l

/-- The inactivity time, against which the running timer is measured (R40). DESIGN CHOICE (log entry 49): from its last
start, as R54 does, which need not be the last activity. -/
def Room.setInactivity (k : Ctx) (l : Fin 16) (n : Nat) (r : Room) : Room :=
  let r := r.modSettings l fun x => { x with inactivity := n }
  if timerPast k r.lines[l].assembler.timer (n * Config.ticksPerSecond) then r.inactive k l else r

/-- The motor start wait, against which a wait in STARTING is measured (R119). -/
def Room.setStartWait (k : Ctx) (l : Fin 16) (n : Nat) (r : Room) : Room :=
  let r := r.modSettings l fun x => { x with startWait := n }
  if r.lines[l].sender.machine = .starting ∧ timerPast k r.lines[l].sender.startTimer (n * Config.ticksPerMs) then
    r.startWaitOver k l
  else r

/-- The motor idle time, against which the timer of READY is measured (R120). -/
def Room.setIdleTime (k : Ctx) (l : Fin 16) (n : Nat) (r : Room) : Room :=
  let r := r.modSettings l fun x => { x with idleTime := n }
  if r.lines[l].sender.machine = .ready ∧ timerPast k r.lines[l].sender.idleTimer (n * Config.ticksPerSecond) then
    r.enterQuiet k l
  else r

/-- The identify window, against which the window timer is measured (R160). -/
def Room.setWindow (k : Ctx) (l : Fin 16) (n : Nat) (r : Room) : Room :=
  let r := r.modSettings l fun x => { x with window := n }
  let i := r.lines[l].sender.identify
  if i.phase = .collecting ∧ timerPast k i.timer (n * Config.ticksPerMs) then r.windowExpired k l else r

/-- The promotion interval of a port: every due entry is promoted one step at once (R107). -/
def Room.setPromotion (k : Ctx) (p : Fin 24) (n : Nat) (r : Room) : Room :=
  (r.modPort p fun x =>
    { x with promotion := n, queue := queuePromoteAll k.time.seconds n x.queue }).tellPort k p

/-- One field of a PORT SETUP for a line that has passed its checks (R191). -/
def Room.setLineField (k : Ctx) (l : Fin 16) (r : Room) (s : Setting) : Room :=
  match s.field with
  | 0 => r.setMode k l ((modeOf s.num).getD .receive)
  | 1 => r.modSettings l fun x => { x with rate := Fin.ofNat 5 s.num }
  | 2 => r.modSettings l fun x => { x with stop := (stopLengthOf s.num).getD .oneAndHalf }
  | 3 => (r.setUnshift k l (s.num == 1)).setSendField k l s
  | 4 => r.setTable k l (Fin.ofNat 4 s.num)
  | 5 => r.setLength k l s.num
  | 6 => r.setInactivity k l s.num
  | 7 => r.modSettings l fun x => { x with dedupe := s.num == 1 }
  | 8 | 9 | 10 | 11 | 12 | 13 => r.setSendField k l s
  | 14 => r.setStartWait k l s.num
  | 15 => r.setIdleTime k l s.num
  | 16 => r.modSettings l fun x => { x with answerback := s.text }
  | 17 => r.modSettings l fun x => { x with identifyBefore := s.num == 1 }
  | 18 => r.modSettings l fun x => { x with expected := s.text }
  | 19 => r.setWindow k l s.num
  | 20 => r.modSettings l fun x => { x with tries := s.num }
  | 21 => r.setPromotion k (linePort l) s.num
  | _ => r

/-- One field of a PORT SETUP for a desk that has passed its checks (R167, R191). A new stall limit is measured against
a running stall timer. -/
def Room.setDeskField (k : Ctx) (d : Fin 8) (r : Room) (s : Setting) : Room :=
  if s.field = 21 then r.setPromotion k (deskPort d) s.num
  else
    let r := r.modDesk d fun x => { x with settings := x.settings.write s }
    if s.field = 29 ∧ timerPast k r.desks[d].stall (s.num * Config.ticksPerSecond) then r.deskStalled k d else r

end Sys2Proof.Machine
end

