-- ==== Sys2Proof/Machine/Ports.lean ====
section
/-! DEFINITION. Starting and stopping ports (R193, R194), the clearing of traffic state by RESET TRAFFIC (R200), the
execution of a reset (R187, R200, R201), and the whole-part resets (R199). -/

namespace Sys2Proof.Machine

/-! ## PORT START -/

/-- A sender at PORT START (R2, R15, R140, R141, R154, R155): staged settings applied, a copy taken and the case
UNKNOWN; on a SEND or BOTH line QUIET at column 0, on a RECEIVE line OUT as it was. -/
def Sender.start (x : Sender) (mode : Mode) (templates : Vector Table 4) : Sender :=
  let x := { x with settings := x.settings.apply x.staged, staged := StagedSend.none }.takeCopy templates
  let x := { x with case := .unknown, identify := Identify.reset, suspension := .empty, farOpen := 0,
                    restartVoid := false, stopPending := none }
  if mode = .receive then { x with machine := .out }
  else
    { x with
      machine := .quiet, column := 0, pendingSpaces := 0, readPos := 0, inWord := false
      linesSent := 0, current := none, substitutions := 0, answerPending := false, startTimer := none
      idleTimer := none, openNow := false, activity := .idle, codes := [], halt := .none }

/-- An assembler at PORT START (R38, R56): on a SEND line it stays OFF. -/
def Assembler.start (k : Ctx) (mode : Mode) : Assembler :=
  if mode = .send then { Assembler.hunt k with machine := .off, timer := none } else Assembler.hunt k

/-- The sides of a line at PORT START (R193). -/
def Line.start (k : Ctx) (x : Line) : Line where
  settings := x.settings
  receiver := x.receiver.start x.settings.mode k.time.ticks
  decoder := x.decoder.start k.part.templates
  assembler := Assembler.start k x.settings.mode
  sender := x.sender.start x.settings.mode k.part.templates

/-- A port enters service: its counters are cleared, its queue stands (R193). -/
def Room.enterService (p : Fin 24) (r : Room) : Room :=
  r.modPort p fun x => { x with inService := true, counters := Counters.zero }

/-- PORT START of a line (R193); a sender in QUIET takes note of its first eligible entry (R119). -/
def Room.startLine (k : Ctx) (l : Fin 16) (r : Room) : Room :=
  (((r.enterService (linePort l)).setConditions (linePort l) fun c => { c with unidentified := false }).modLine l
    (Line.start k)).tellSender k l

/-- PORT START of a desk, which takes its first eligible entry at once (R182, R193). -/
def Room.startDesk (k : Ctx) (d : Fin 8) (r : Room) : Room :=
  ((r.enterService (deskPort d)).modDesk d Desk.started).tellDesk k d

/-- PORT STOP of a line: the receive side at once, then the send side (R194). -/
def Room.stopLine (k : Ctx) (l : Fin 16) (kind : StopKind) (r : Room) : Room :=
  (r.stopReceive k l).senderStop k l kind

/-! ## RESET TRAFFIC -/

/-- Conditions after RESET TRAFFIC: BROKEN alone stays (R200). -/
def Conditions.cleared (c : Conditions) : Conditions := { Conditions.none with broken := c.broken }

/-- A port after RESET TRAFFIC (R36, R56, R107, R117, R182). -/
def Port.cleared (x : Port) : Port :=
  { x with conditions := x.conditions.cleared, counters := Counters.zero, queue := [] }

/-- A decoder after RESET TRAFFIC; in service it is at a safe point (R15, R36). -/
def Decoder.cleared (d : Decoder) (inService : Bool) (templates : Vector Table 4) : Decoder :=
  let d := { d with case := .letters, returnSeen := false, inLine := false, blankLines := 0 }
  if inService then d.safePoint templates else d

/-- An assembler after RESET TRAFFIC: its stories forgotten, its cells dropped uncounted (R56). -/
def Assembler.cleared (k : Ctx) (a : Assembler) : Assembler :=
  match a.machine with
  | .hunt | .story => Assembler.hunt k
  | m => { Assembler.hunt k with machine := m, timer := none }

/-- What RESET TRAFFIC clears of a sender at once (R141, R153–R155). With a character in progress the sender takes its
new state when the character has ended. -/
def Sender.cleared (x : Sender) : Sender :=
  { x with
    case := .unknown, pendingSpaces := 0, readPos := 0, inWord := false, linesSent := 0, current := none
    substitutions := 0, answerPending := false, startTimer := none, idleTimer := none, suspension := .empty
    farOpen := 0, openNow := false, restartVoid := false, activity := .idle, codes := []
    machine := if x.machine = .identifying then .sending else x.machine
    identify := { x.identify.ended with tryNumber := 0, collector := [] }
    halt := if x.machine ≠ .out ∧ x.txChar.isSome then .reset else .none }

/-- A line after RESET TRAFFIC, its sender not yet in its new state. -/
def Line.cleared (k : Ctx) (inService : Bool) (x : Line) : Line where
  settings := x.settings
  receiver := x.receiver
  decoder := x.decoder.cleared inService k.part.templates
  assembler := x.assembler.cleared k
  sender := x.sender.cleared

/-- The traffic state of every block cleared, the notice list emptied (R82, R85, R98, R117, R200). -/
def Room.cleared (k : Ctx) (r : Room) : Room where
  ports := all24.foldl (fun v (p : Fin 24) => v.set p (r.ports[p]).cleared) r.ports
  lines := allLines.foldl (fun v (l : Fin 16) => v.set l (r.lines[l].cleared k r.ports[linePort l].inService)) r.lines
  desks := allDesks.foldl (fun v (d : Fin 8) => v.set d (r.desks[d]).cleared) r.desks
  stories := Vector.replicate 256 Story.blank
  scans := Vector.replicate 256 none
  pool := List.range 1024
  freeCount := 1024
  picks := r.picks
  waitList := Vector.replicate 16 false
  settled := []
  filedCount := 0
  stack := []
  search := none
  link := { r.link with notices := [] }

/-- The senders in service with no character in progress take their new states (R141, R153). -/
def Room.resetSenders (k : Ctx) (r : Room) : Room :=
  allLines.foldl
    (fun r l =>
      let s := r.lines[l].sender
      if s.machine ≠ .out ∧ s.txChar = none then r.resetSender k l else r)
    r

/-- RESET TRAFFIC clears traffic state; the ports whose condition sets it changes are posted afresh (R200), in the order
of their numbers (log entry 39). -/
def Room.clearTraffic (k : Ctx) (r : Room) : Room :=
  let changed := all24.filter fun p => r.ports[p].conditions.cleared != r.ports[p].conditions
  changed.foldl (fun r p => r.postPort p) ((r.cleared k).resetSenders k)

/-! ## The execution of a reset -/

/-- The reply of a running long request that a reset ends (R98, R163). -/
def Room.cutReply (r : Room) (x : LongRecord) : Reply :=
  match x.subject with
  | .search => ⟨x.tag, .cut, none, .searchCut (r.search.elim 0 fun s => s.next)⟩
  | .line l => ⟨x.tag, .cut, none, r.lines[l].sender.identify.cutResults⟩

/-- A sender whose exchange a reset cuts (R163): the exchange ends, and one that was IDENTIFYING sends nothing after its
character until the reset clears it (log entry 13). On an UNIDENTIFIED line the start wait or the exchange is what let
the sender leave BLOCKED, where it is again (R165). -/
def Sender.silenced (s : Sender) (unidentified : Bool) : Sender :=
  let x := s.cutShort
  if unidentified ∧ (s.machine = .starting ∨ s.machine = .identifying) then
    { x with machine := .blocked, startTimer := none, answerPending := false, activity := .idle, codes := [] }
  else if s.machine = .identifying then { x with activity := .idle, codes := [] }
  else x

/-- At the take of a reset every exchange and the running search are ended, asked for by a request or not (R98, R163,
R200, R201). -/
def Room.cutAll (r : Room) : Room :=
  allLines.foldl
    (fun r l =>
      if r.lines[l].sender.identify.phase = .none then r else r.modSender l fun s => s.silenced (r.unidentified l))
    { r with search := none, link := { r.link with records := [] } }

/-- Replies of a reset join the queue while it has places; the rest wait (R187). -/
def Link.fill (k : Link) : List Reply → Link × List Reply
  | [] => (k, [])
  | x :: rest => if k.replies.length < 8 then (k.queueReply x).fill rest else (k, x :: rest)

/-- A reset goes on (R187, R200, R201): its replies join the queue; RESET TRAFFIC, its own DONE queued, clears the
traffic state and is over, and RESET FULL goes on until its DONE frame has ended. -/
def Room.runReset (k : Ctx) (kind : ResetKind) (replies : List Reply) (r : Room) : Room :=
  let (link, rest) := r.link.fill replies
  let r := { r with link := { link with resetting := some ⟨kind, rest⟩ } }
  if rest = [] ∧ kind = .traffic then (r.clearTraffic k).modLink fun x => { x with resetting := none } else r

/-- A reset is taken: the replies of the long requests it ends come before its own, in the order of their records (R187,
R200, R201). -/
def Room.takeReset (k : Ctx) (kind : ResetKind) (tag : Octet) (r : Room) : Room :=
  r.cutAll.runReset k kind (r.link.records.map r.cutReply ++ [doneReply tag .none])

/-! ## Whole-part resets -/

/-- The room after power-on, the reset pin or RESET FULL: every block at its power-on values, the straps as read; the
levels on the receive pins are the lines' own. -/
def Room.powerOn (strapFirst strapSecond : Bool) (r : Room) : Room :=
  allLines.foldl (fun x l => x.modReceiver l fun y => { y with pin := r.lines[l].receiver.pin })
    (Room.reset strapFirst strapSecond)

/-- The part after a whole-part reset; the commands waiting are the outside's (R199). -/
def State.wholeReset (s : State) (strapFirst strapSecond : Bool) : State where
  pending := s.pending
  time := Time.reset
  part := Part.reset
  room := s.room.powerOn strapFirst strapSecond

end Sys2Proof.Machine
end

