-- ==== Sys2Proof/Machine/PortRequests.lean ====
section
/-! DEFINITION. The requests on ports: PORT SETUP, PORT START, PORT STOP and IDENTIFY. -/

namespace Sys2Proof.Machine

/-- What a meaning answers. -/
abbrev Answer := Host.Outcome State Fault Refusal

/-- A request that works in the room and is answered DONE. -/
def State.done (s : State) (tag : Octet) (f : Ctx → Room → Room) : State × Reply := (s.inRoom f, doneReply tag .none)

/-- PORT SETUP of a line (R191). The fields act in the order the request lists them, each before the next is written (log
entry 32). -/
def State.setupLine (s : State) (tag : Octet) (l : Fin 16) (settings : List Setting) : State × Reply :=
  if !lineSettingsValid settings then s.refuse tag .badParameter
  else if s.room.ports[linePort l].inService && settings.any fixedInService then s.refuse tag .wrongState
  else s.done tag fun k r => settings.foldl (Room.setLineField k l) r

/-- PORT SETUP of a desk (R167, R191), its fields in the order listed (log entry 32). -/
def State.setupDesk (s : State) (tag : Octet) (d : Fin 8) (settings : List Setting) : State × Reply :=
  if !deskSettingsValid s.room.desks[d].settings settings then s.refuse tag .badParameter
  else if s.room.ports[deskPort d].inService && settings.any fixedInService then s.refuse tag .wrongState
  else s.done tag fun k r => settings.foldl (Room.setDeskField k d) r

/-- PORT SETUP (R190, R191). -/
def execPortSetup (tag : Octet) (port : Nat) (settings : List Setting) (s : State) : Answer :=
  .next (s.request fun s =>
    match portOf port with
    | none => s.refuse tag .badParameter
    | some p =>
      match portUnit p with
      | .inl l => s.setupLine tag l settings
      | .inr d => s.setupDesk tag d settings)

/-- PORT START of a line (R193). -/
def State.startLine (s : State) (tag : Octet) (l : Fin 16) : State × Reply :=
  if s.room.ports[linePort l].inService then
    s.refuse tag (if s.room.lines[l].sender.stopPending.isSome then .notReady else .wrongState)
  else s.done tag fun k r => r.startLine k l

/-- PORT START of a desk (R193). -/
def State.startDesk (s : State) (tag : Octet) (d : Fin 8) : State × Reply :=
  if s.room.ports[deskPort d].inService then s.refuse tag .wrongState
  else s.done tag fun k r => r.startDesk k d

/-- PORT START (R193). -/
def execPortStart (tag : Octet) (port : Nat) (s : State) : Answer :=
  .next (s.request fun s =>
    match portOf port with
    | none => s.refuse tag .badParameter
    | some p =>
      match portUnit p with
      | .inl l => s.startLine tag l
      | .inr d => s.startDesk tag d)

/-- PORT STOP of either kind (R194). -/
def State.stopPort (s : State) (tag : Octet) (port : Nat) (kind : StopKind) : State × Reply :=
  match portOf port with
  | none => s.refuse tag .badParameter
  | some p =>
    if !s.room.ports[p].inService then s.refuse tag .wrongState
    else match portUnit p with
      | .inl l => s.done tag fun k r => r.stopLine k l kind
      | .inr d => s.done tag fun k r => r.deskStop k d

/-- PORT STOP DRAIN (R151, R194). -/
def execPortStopDrain (tag : Octet) (port : Nat) (s : State) : Answer :=
  .next (s.request fun s => s.stopPort tag port .drain)

/-- PORT STOP CUT (R152, R194). -/
def execPortStopCut (tag : Octet) (port : Nat) (s : State) : Answer :=
  .next (s.request fun s => s.stopPort tag port .cut)

/-- The checks of IDENTIFY, in order: the detail code of the first failure (R156). -/
def State.identifyRefusal (s : State) (port : Nat) : Option Detail :=
  if h : port < 16 then
    let l : Fin 16 := ⟨port, h⟩
    let x := s.room.lines[l]
    let p := s.room.ports[linePort l]
    if !p.inService || x.settings.mode != .both then some .wrongState
    else if x.sender.stopPending.isSome then some .notReady
    else if p.conditions.broken then some .wrongState
    else if x.sender.identify.phase != .none then some .busy
    else if x.sender.identPos.isNone || x.settings.expected.isEmpty then some .badSetup
    else none
  else some .badParameter

/-- An exchange is asked for (R156, R157): PENDING with the request flag set; it begins as the sender's state allows,
through STARTING from BLOCKED. A sender within a character, as RESET TRAFFIC may leave one in BLOCKED, ends the character
first and begins the exchange from the state it then enters (R163, R200). -/
def Room.askExchange (k : Ctx) (l : Fin 16) (tag : Octet) (r : Room) : Room :=
  let r := (r.modIdentify l fun i => { i with phase := .pending, request := true }).modLink fun x =>
    { x with records := x.records ++ [⟨.line l, tag⟩] }
  let s := r.lines[l].sender
  if s.machine = .blocked ∧ s.txChar = none then r.enterStarting k l else r.tellSender k l

/-- IDENTIFY (R156): refused at the first failing check; otherwise a long request, with no reply at its take (R188). -/
def execIdentify (tag : Octet) (port : Nat) (s : State) : Answer :=
  .next (match s.identifyRefusal port with
    | some d => s.request fun s => s.refuse tag d
    | none =>
      if s.room.link.canTake then (s.inRoom fun k r => r.askExchange k (Fin.ofNat 16 port) tag).finish else s)

end Sys2Proof.Machine
end

