-- ==== Sys2Proof/Machine/Clock.lean ====
section
/-! DEFINITION. The timing base's own events (R80, R81). -/

namespace Sys2Proof.Machine

/-- The settled flag is set 25 ms after a whole-part reset, and the part is posted READY (R80, R199). -/
def execTimingBaseSettled (s : State) : Answer :=
  .next (if s.time.settled then s
    else
      let s := s.reach (Config.settleMs * Config.ticksPerMs)
      { s with time := { s.time with settled := true }, room := s.room.postPart }.finish)

/-- The monotonic counter one second on (R80). -/
def Time.advanceSeconds (t : Time) : Time :=
  { t with seconds := t.seconds + 1, secondsFrom := t.secondsFrom + Config.ticksPerSecond }

/-- The monotonic seconds counter advances each 100,000 ticks (R80). -/
def execMonotonicSecondsAdvance (s : State) : Answer :=
  .next (
    let s := s.reach (s.time.secondsFrom + Config.ticksPerSecond)
    { s with time := s.time.advanceSeconds }.finish)

/-- The wire clock one second on (R81). -/
def Stamp.next (t : Stamp) : Stamp :=
  if t.seconds < 86399 then ⟨t.seconds + 1, t.day⟩ else ⟨0, (t.day + 1) % 256⟩

/-- The wire clock's advance (R81). -/
def Time.advanceClock (t : Time) : Time :=
  { t with clock := t.clock.next, clockFrom := t.clockFrom + Config.ticksPerSecond }

/-- The wire clock advances each 100,000 ticks after its last advance or CLOCK SET (R81). -/
def execWireClockAdvance (s : State) : Answer :=
  .next (
    let s := s.reach (s.time.clockFrom + Config.ticksPerSecond)
    { s with time := s.time.advanceClock }.finish)

end Sys2Proof.Machine
end

