-- ==== Sys2Proof/Machine/Compose.lean ====
section
/-! DEFINITION. Composing at a desk (10.6) and the desk's events: typed characters, the end of each character sent, and
the stall timer. -/

namespace Sys2Proof.Machine

/-- What a commit needs (R179): the composing story, or a slot for it, with its length and limit. -/
def Room.commitTarget (r : Room) (d : Fin 8) : Option (Fin 256 × Nat × Nat) :=
  let x := r.desks[d]
  match x.composing with
  | some slot => some (slot, r.stories[slot].text.length, r.stories[slot].limit)
  | none => r.openSlot.map fun slot => (slot, 0, x.settings.maxLength)

/-- A commit judged whole (R179): the room after it, or none when it is refused. -/
def Room.commit (k : Ctx) (d : Fin 8) (r : Room) : Option Room :=
  let x := r.desks[d]
  match r.commitTarget d with
  | none => none
  | some (slot, length, limit) =>
    let total := length + x.buffer.length + 1
    let blocks := blocksFor total - blocksFor length
    if limit < total ∨ r.freeCount < blocks then none
    else
      let r := if x.composing.isSome then r else r.openStory k slot (.desk d) limit
      let r := (r.allocateMany k slot blocks).writeCells k slot (x.buffer ++ [10])
      some ((r.modDesk d fun x => { x with buffer := [], composing := some slot }).deskEcho d [13, 10])

/-- CR in COMPOSING: the commit, or a bell when it is refused (R179). -/
def Room.deskCommit (k : Ctx) (d : Fin 8) (r : Room) : Room := (r.commit k d).getD (r.deskBell d)

/-- The file code: the buffer committed when it holds a cell, the story closed and handed on, IDLE (R180). -/
def Room.deskFile (k : Ctx) (d : Fin 8) (r : Room) : Room :=
  let committed := if r.desks[d].buffer = [] then some r else r.commit k d
  match committed with
  | none => r.deskBell d
  | some r =>
    let r := match r.desks[d].composing with
      | some slot => (r.modDesk d fun x => { x with composing := none }).handOn k slot .closed
      | none => r
    r.deskIdle k d

/-- The cancel code: the story ABANDONED, a return when echo is on and one is due, IDLE (R180). The line-start flag is read
as the code is taken, echoes still waiting or not (log entry 43). DESIGN CHOICE (log entry 53): that CR and LF are an echo,
discarded whole under the pause flag or for want of room in the short output list (R170). -/
def Room.deskCancel (k : Ctx) (d : Fin 8) (r : Room) : Room :=
  let x := r.desks[d]
  let r := r.modDesk d fun x => { x with buffer := [], composing := none }
  let r := match x.composing with
    | some slot => r.freeStory k slot .abandoned
    | none => r
  (if r.desks[d].lineStart then r else r.deskEcho d [13, 10]).deskIdle k d

/-- A printing character into the buffer, echoed, or a bell when the buffer is full (R178). -/
def Room.deskType (d : Fin 8) (c : Nat) (r : Room) : Room :=
  if r.desks[d].buffer.length < 80 then (r.modDesk d fun x => { x with buffer := x.buffer ++ [c] }).deskEcho d [c]
  else r.deskBell d

/-- The rubout code in COMPOSING: BS, SP, BS, or a bell when the buffer is empty (R178). -/
def Room.deskRubout (d : Fin 8) (r : Room) : Room :=
  if r.desks[d].buffer = [] then r.deskBell d
  else (r.modDesk d fun x => { x with buffer := x.buffer.dropLast }).deskEcho d [8, 32, 8]

/-- A typed character in COMPOSING (R178, R181). -/
def Room.composeKey (k : Ctx) (d : Fin 8) (c : Nat) (r : Room) : Room :=
  let x := r.desks[d].settings
  if c = x.pauseCode then r.deskPause k d
  else if c = x.resumeCode then r.deskResume d
  else if c = x.fileCode then r.deskFile k d
  else if c = x.cancelCode then r.deskCancel k d
  else if c = x.rubout then r.deskRubout d
  else if c = 13 then r.deskCommit k d
  else if c = 10 then r
  else if isPrinting c then r.deskType d c
  else r.deskBell d

/-- A typed character in IDLE (R178, R181). -/
def Room.idleKey (k : Ctx) (d : Fin 8) (c : Nat) (r : Room) : Room :=
  let x := r.desks[d].settings
  if c = x.pauseCode then r.deskPause k d
  else if c = x.resumeCode then r.deskResume d
  else if c = x.rubout then r.deskBell d
  else if isPrinting c then
    (r.modDesk d fun x => { x with state := .composing, buffer := [], composing := none }).deskType d c
  else r

/-- A typed character in DELIVERING (R181). -/
def Room.deliveringKey (k : Ctx) (d : Fin 8) (c : Nat) (r : Room) : Room :=
  let x := r.desks[d].settings
  if c = x.pauseCode then r.deskPause k d
  else if c = x.resumeCode then r.deskResume d
  else r.deskBell d

/-- A typed character by the desk's state (R181). -/
def Room.deskKey (k : Ctx) (d : Fin 8) (c : Nat) (r : Room) : Room :=
  match r.desks[d].state with
  | .out => r
  | .idle => r.idleKey k d c
  | .delivering => r.deliveringKey k d c
  | .composing => r.composeKey k d c
  | .stalled => if c = r.desks[d].settings.resumeCode then r.deskRecover k d else r

/-- The stop sample of a typed character (R169): a framing error is counted and dropped. A desk that RESET TRAFFIC has
cleared within a character takes no key before the character's end (R182, log entry 13). -/
def Room.deskReceived (k : Ctx) (d : Fin 8) (c : Nat) (stop : Level) (r : Room) : Room :=
  let r := r.countCharacter (deskPort d)
  match stop with
  | .mark => if r.desks[d].clearing then r else r.deskKey k d c
  | .space => r.countGarble (deskPort d)

/-- A character typed at a desk (R169, R181); a desk that is OUT receives nothing (R166). -/
def execDeskCharacterReceived (desk : Fin 8) (value : Fin 128) (stop : Level) (s : State) : Answer :=
  .next (
    if s.room.desks[desk].state = .out then s
    else (s.inRoom fun k r => r.deskReceived k desk value.val stop).finish)

/-- The character in progress on a desk's send pin ends (R170). -/
def execDeskCharacterSent (desk : Fin 8) (s : State) : Answer :=
  .next (
    match s.room.desks[desk].txChar with
    | some _ => (s.inRoom fun k r => r.deskEnded k desk).finish
    | none => s)

/-- The stall timer reaches the stall limit (R176). -/
def execStallExpiry (desk : Fin 8) (s : State) : Answer :=
  .next (
    let x := s.room.desks[desk]
    match x.state, x.stall with
    | .delivering, some t =>
      ((s.reach (t + x.settings.stallLimit * Config.ticksPerSecond)).inRoom fun k r => r.deskStalled k desk).finish
    | _, _ => s)

end Sys2Proof.Machine
end

