-- ==== Sys2Proof/Machine/LineEvents.lean ====
section
/-! DEFINITION. The events of a line: its receive pin, its timers, and the end of each character it sends; and the
promotion of a queue entry. An event that cannot occur in the state it finds changes nothing (log entry 5). -/

namespace Sys2Proof.Machine

/-- The stop sample of the character being framed, 6.5U after its start edge (R20, R21). -/
def execCharacterReceived (line : Fin 16) (code : Fin 32) (stop : Level) (s : State) : Answer :=
  .next (
    let x := s.room.lines[line]
    if x.receiver.state = .framing then
      ((s.reach (x.receiver.edge + 13 * unitTicks x.settings.rate / 2)).inRoom fun k r =>
        r.stopSample k line code stop).finish
    else s)

/-- The start sample, 0.5U after the edge, finds mark (R19). -/
def execFalseStart (line : Fin 16) (s : State) : Answer :=
  .next (
    let x := s.room.lines[line]
    if x.receiver.state = .framing then
      ((s.reach (x.receiver.edge + unitTicks x.settings.rate / 2)).inRoom fun _ r =>
        r.modReceiver line Receiver.falseStart).finish
    else s)

/-- A mark-to-space transition on a receive pin (R19, R22, R24). -/
def execMarkToSpaceTransition (line : Fin 16) (s : State) : Answer :=
  .next (s.inRoom fun k r => r.modReceiver line fun x => x.spaceEdge k.time.ticks).finish

/-- A space-to-mark transition on a receive pin (R22, R24). -/
def execSpaceToMarkTransition (line : Fin 16) (s : State) : Answer :=
  .next (s.inRoom fun k r => r.modReceiver line fun x => x.markEdge k.time.ticks).finish

/-- Continuous space has reached 3C (R22, R23). -/
def execBreakDetected (line : Fin 16) (s : State) : Answer :=
  .next (
    let x := s.room.lines[line]
    match x.receiver.state, x.receiver.space with
    | .waiting, some t =>
      ((s.reach (t + 3 * x.settings.charTicks)).inRoom fun k r => r.lineBroken k line).finish
    | _, _ => s)

/-- Continuous mark has reached 10C (R24). -/
def execRestore (line : Fin 16) (s : State) : Answer :=
  .next (
    let x := s.room.lines[line]
    match x.receiver.state, x.receiver.mark with
    | .broken, some t =>
      ((s.reach (t + 10 * x.settings.charTicks)).inRoom fun k r => r.lineRestored k line).finish
    | _, _ => s)

/-- The inactivity timer expires (R54). -/
def execInactivityExpiry (line : Fin 16) (s : State) : Answer :=
  .next (
    let x := s.room.lines[line]
    match x.assembler.timer with
    | some t =>
      if x.assembler.machine = .hunt ∨ x.assembler.machine = .story then
        ((s.reach (t + x.settings.inactivity * Config.ticksPerSecond)).inRoom fun k r => r.inactive k line).finish
      else s
    | none => s)

/-- The motor start wait ends (R119). -/
def execStartWaitEnd (line : Fin 16) (s : State) : Answer :=
  .next (
    let x := s.room.lines[line]
    match x.sender.machine, x.sender.startTimer with
    | .starting, some t =>
      ((s.reach (t + x.settings.startWait * Config.ticksPerMs)).inRoom fun k r => r.startWaitOver k line).finish
    | _, _ => s)

/-- The motor idle time has passed in READY (R120). -/
def execMotorIdleExpiry (line : Fin 16) (s : State) : Answer :=
  .next (
    let x := s.room.lines[line]
    match x.sender.machine, x.sender.idleTimer with
    | .ready, some t =>
      ((s.reach (t + x.settings.idleTime * Config.ticksPerSecond)).inRoom fun k r => r.enterQuiet k line).finish
    | _, _ => s)

/-- The character in progress ends, one character time after it began (R123). -/
def execSendCharacterEnd (line : Fin 16) (s : State) : Answer :=
  .next (
    let x := s.room.lines[line]
    match x.sender.txChar with
    | some (_, t) =>
      ((s.reach (t + x.settings.charTicks)).inRoom fun k r => r.characterEnded k line).finish
    | none => s)

/-- The identify window expires without a match (R160). -/
def execIdentifyWindowExpiry (line : Fin 16) (s : State) : Answer :=
  .next (
    let x := s.room.lines[line]
    match x.sender.identify.phase, x.sender.identify.timer with
    | .collecting, some t =>
      ((s.reach (t + x.settings.window * Config.ticksPerMs)).inRoom fun k r => r.windowExpired k line).finish
    | _, _ => s)

/-- An entry whose age has reached its port's interval is promoted (R106). -/
def execEntryPromotion (port : Fin 24) (slot : Fin 256) (s : State) : Answer :=
  .next (s.inRoom fun k r => r.promote k port slot).finish

end Sys2Proof.Machine
end

