-- ==== Sys2Proof/Machine/Frames.lean ====
section
/-! DEFINITION. The frames of the control link (R184): the bytes of the frames the part sends, the bodies of the host's
requests (R186) and their parse, and the frame receiver's judgement of a run of bytes (R185). Bytes are numbers below
256. Log entry 6 lists the layouts R184 leaves open. -/

namespace Sys2Proof.Machine

/-! ## Field encodings (R184) -/

/-- Two bytes, the high byte first. -/
def two (n : Nat) : List Nat := [n / 256 % 256, n % 256]

/-- Three bytes, the high byte first. -/
def three (n : Nat) : List Nat := n / 65536 % 256 :: two n

/-- Four bytes, the high byte first. -/
def four (n : Nat) : List Nat := n / 16777216 % 256 :: three n

/-- One byte for yes or no. -/
def yesNo (b : Bool) : List Nat := [b.toNat]

/-- Eight flags as a byte, the first at the least significant bit. -/
def flagByte (l : List Bool) : Nat := l.foldr (fun b n => b.toNat + 2 * n) 0

/-- A set over 0–23 in three bytes, bit n for member n from the least significant bit of the first byte. -/
def setBytes (s : Vector Bool 24) : List Nat :=
  let bits := all24.map fun p => s[p]
  [flagByte (bits.take 8), flagByte ((bits.drop 8).take 8), flagByte (bits.drop 16)]

/-- A string, or a run of at most 255 cells: a count byte and the codes. -/
def run (l : List Nat) : List Nat := l.length :: l

/-- An optional field: a presence byte and, when it is 1, the value. -/
def optional {α : Type} (f : α → List Nat) : Option α → List Nat
  | none => [0]
  | some x => 1 :: f x

/-- A reading of the wire clock: three bytes of seconds, two of the day count. -/
def Stamp.bytes (t : Stamp) : List Nat := three t.seconds ++ two t.day

/-! ## Enumerations, numbered in the manual's order (R184) -/

def Class.number : Class → Nat
  | .flash => 0
  | .urgent => 1
  | .ordinary => 2
  | .deferred => 3

def StoryState.number : StoryState → Nat
  | .free => 0
  | .assembling => 1
  | .filed => 2
  | .settled => 3

def CloseCause.number : CloseCause → Nat
  | .closed => 0
  | .unterminated => 1
  | .overlong => 2
  | .timedOut => 3
  | .truncated => 4

def DiscardReason.number : DiscardReason → Nat
  | .voided => 0
  | .empty => 1
  | .duplicate => 2
  | .abandoned => 3
  | .reclaimed => 4
  | .released => 5

def Termination.number : Termination → Nat
  | .done => 0
  | .failed => 1
  | .refused => 2
  | .cut => 3

/-- Detail codes; a reply with no detail carries 0 (R187). -/
def Detail.number : Detail → Nat
  | .badRequest => 0
  | .badParameter => 1
  | .wrongState => 2
  | .busy => 3
  | .noSuchStory => 4
  | .storeFull => 5
  | .sequence => 6
  | .badSetup => 7
  | .notReady => 8

def RejectReason.number : RejectReason → Nat
  | .length => 0
  | .check => 1
  | .gap => 2
  | .flow => 3

def RxState.number : RxState → Nat
  | .off => 0
  | .waiting => 1
  | .framing => 2
  | .broken => 3

def ReceiveMachine.number : ReceiveMachine → Nat
  | .off => 0
  | .hunt => 1
  | .story => 2
  | .broken => 3

def Case.number : Case → Nat
  | .letters => 0
  | .figures => 1

def SendCase.number : SendCase → Nat
  | .letters => 0
  | .figures => 1
  | .unknown => 2

def SendMachine.number : SendMachine → Nat
  | .out => 0
  | .quiet => 1
  | .starting => 2
  | .ready => 3
  | .sending => 4
  | .identifying => 5
  | .blocked => 6

def SuspensionKind.number : SuspensionKind → Nat
  | .empty => 0
  | .held => 1
  | .withdrawn => 2

/-- Stop pending: none 0, DRAIN 1, CUT 2 (R142). -/
def stopNumber : Option StopKind → Nat
  | none => 0
  | some .drain => 1
  | some .cut => 2

def Phase.number : Phase → Nat
  | .none => 0
  | .pending => 1
  | .awaiting => 2
  | .calling => 3
  | .collecting => 4
  | .closing => 5

def DeskState.number : DeskState → Nat
  | .out => 0
  | .idle => 1
  | .delivering => 2
  | .composing => 3
  | .stalled => 4

def OutputKind.number : OutputKind → Nat
  | .none => 0
  | .story => 1
  | .withdrawal => 2

def AppendStop.number : AppendStop → Nat
  | .lengthLimit => 0
  | .emptyPool => 1

/-! ## Replies and notices -/

/-- A slot, or the mark of none. -/
def slotBytes (s : Option (Fin 256)) : List Nat := optional (fun x => [x.val]) s

/-- A header's source, serial, class and category (R198). -/
def Header.shortBytes (h : Header) : List Nat := h.source ++ two h.serial ++ h.cls.number :: h.category

/-- A header whole (R65). -/
def Header.bytes (h : Header) : List Nat := h.shortBytes ++ optional three h.wordCount ++ optional run h.slug

/-- The origin's number. -/
def originByte (o : Option Origin) : List Nat := [o.elim 24 Origin.number]

/-- A record in the order of R65, the chain's block count in the chain's place (R197). -/
def Story.bytes (s : Story) : List Nat :=
  s.state.number :: yesNo s.held ++ originByte s.origin ++ (s.opened.getD ⟨0, 0⟩).bytes ++ optional Stamp.bytes s.filed
    ++ optional Header.bytes s.header ++ s.effective.number :: two s.text.length ++ two s.limit ++ two s.textLines
    ++ two s.chain.length ++ optional (fun c => [c.number]) s.cause ++ yesNo s.closed ++ two s.garbles ++ two s.overruns
    ++ two s.substitutions ++ setBytes s.keywords ++ setBytes s.pendingSet ++ setBytes s.doneSet ++ setBytes s.missedSet
    ++ yesNo s.begun ++ optional (fun d => [d.number]) s.reason ++ yesNo s.noticePending

/-- A STORY LIST summary (R77). -/
def Summary.bytes (s : Summary) : List Nat :=
  s.slot.val :: s.state.number :: yesNo s.held ++ originByte s.origin ++ s.effective.number :: two s.length
    ++ two s.textLines ++ optional (fun c => [c.number]) s.cause
    ++ optional (fun (h : Key × List Nat) => h.1.source ++ two h.1.serial ++ h.2) s.header
    ++ match s.filed with
      | none => []
      | some (t, p, d, m) => (t.getD ⟨0, 0⟩).bytes ++ setBytes p ++ setBytes d ++ setBytes m

/-- A hit (R96). -/
def Hit.bytes (h : Hit) : List Nat := h.slot.val :: h.state.number :: two h.offset

/-- The end mark of a search: complete 0, not satisfied 1, more 2, then the next slot when more (R97). -/
def SearchEnd.bytes : SearchEnd → List Nat
  | .complete => [0, 0]
  | .notSatisfied => [1, 0]
  | .more n => [2, 1, n]

/-- A key (R197). -/
def Key.bytes (k : Key) : List Nat := k.source ++ two k.serial

def Counters.bytes (c : Counters) : List Nat :=
  two c.characters ++ two c.garbles ++ two c.overruns ++ two c.strays ++ two c.assembled ++ two c.sent

/-- The ports section of STATUS (R196); "in service or OUT" travels as yes or no, 1 for in service (log entry 6). -/
def PortStatus.bytes (p : PortStatus) : List Nat :=
  yesNo p.inService ++ p.conditions.byte :: two p.load ++ two p.promotion ++ p.counters.bytes

def ReceiveStatus.bytes (x : ReceiveStatus) : List Nat :=
  x.receiver.number :: x.machine.number :: x.case.number :: slotBytes x.current ++ slotBytes x.suspended
    ++ yesNo x.matching_ ++ yesNo x.waiting

def SendStatus.bytes (x : SendStatus) : List Nat :=
  x.machine.number :: x.case.number :: two x.column ++ slotBytes x.current ++ yesNo x.answerPending
    ++ x.suspension.number :: optional (fun (h : Fin 256 × Class × Nat) => h.1.val :: h.2.1.number :: two h.2.2) x.held
    ++ two x.farOpen ++ yesNo x.restartVoid ++ stopNumber x.stopPending :: x.phase.number :: two x.tryNumber
    ++ two x.collected

def SideStatus.bytes (x : SideStatus) : List Nat := x.table.val :: yesNo x.refresh ++ run x.staged

def DeskStatus.bytes (x : DeskStatus) : List Nat :=
  x.state.number :: yesNo x.pause ++ x.output.number :: slotBytes x.current ++ two x.buffered ++ slotBytes x.composing

/-- A set of line ports in the manner of a destination set. DESIGN CHOICE (log entry 6): R184 gives such a set no encoding. -/
def lineSet (v : Vector Bool 16) : Vector Bool 24 :=
  allLines.foldl (fun s l => s.set (linePort l) v[l]) emptySet

def PartStatus.bytes (x : PartStatus) : List Nat :=
  two x.freeCount ++ two x.hostStories ++ two x.settledLen ++ setBytes (lineSet x.waitList) ++ two x.filedCount
    ++ two x.threshold ++ x.lede :: x.keys.length :: (x.keys.map Key.bytes).flatten
    ++ optional (fun n => [n]) x.searching ++ x.clock.bytes ++ four x.seconds.toNat ++ two x.subjects ++ run x.markers.opn
    ++ run x.markers.cls ++ run x.markers.brk ++ run x.markers.res ++ run x.markers.vd

/-- The results of a reply, in the order its request's rule names them. A SEARCH CUT carries its next slot alone, with no
empty hit list before it; of the fields that STATUS port gives for each side of a line, the three of the receive side come
together and before the three of the send side (DESIGN CHOICE, log entry 6). -/
def Results.bytes : Results → List Nat
  | .none => []
  | .entriesTaken n => [n]
  | .slot n => [n.val]
  | .append taken rejected notTaken stop =>
    two taken ++ two rejected ++ two notTaken ++ optional (fun x => [x.number]) stop
  | .read state n cells => state.number :: two n ++ run cells
  | .list items next => items.length :: (items.map Summary.bytes).flatten ++ slotBytes next
  | .length n => two n
  | .ports n => two n
  | .requeued added missed => setBytes added ++ setBytes missed
  | .search hits ending => hits.length :: (hits.map Hit.bytes).flatten ++ ending.bytes
  | .searchCut next => [next]
  | .identified cells tries => run cells ++ two tries
  | .identifyCut tries cells => two tries ++ run cells
  | .statusLine p r s a b => p.bytes ++ r.bytes ++ s.bytes ++ a.bytes ++ b.bytes
  | .statusDesk p d => p.bytes ++ d.bytes
  | .statusPart p => p.bytes
  | .statusStory s => s.bytes

/-- The body of a story notice, in the order of R198's table. -/
def storyNoticeBody (slot : Fin 256) (kinds : StoryKinds) (s : Story) : List Nat :=
  slot.val :: kinds.byte :: s.state.number :: optional (fun d => [d.number]) s.reason ++ originByte s.origin
    ++ (s.opened.getD ⟨0, 0⟩).bytes ++ optional Stamp.bytes s.filed ++ optional (fun c => [c.number]) s.cause
    ++ optional Header.shortBytes s.header ++ s.effective.number :: yesNo s.held ++ two s.text.length ++ two s.garbles
    ++ two s.overruns ++ two s.substitutions ++ setBytes s.keywords ++ setBytes s.pendingSet ++ setBytes s.doneSet
    ++ setBytes s.missedSet

/-- A frame's kind byte (R184). -/
def Frame.kind : Frame → Nat
  | .reply _ => 0x81
  | .story _ _ _ => 0x90
  | .port _ _ => 0x91
  | .part _ => 0x92
  | .reject _ => 0xFF

/-- A frame's tag byte: the request's in a reply, 0 in the others (R184). -/
def Frame.tag : Frame → Nat
  | .reply r => r.tag.toNat
  | _ => 0

/-- A frame's body (R184, R185, R187, R198). -/
def Frame.body : Frame → List Nat
  | .reply r => r.cls.number :: r.detail.elim 0 Detail.number :: r.results.bytes
  | .reject r => r.reason.number :: two r.count
  | .story slot kinds s => storyNoticeBody slot kinds s
  | .port p c => [p.val, 1, c.byte]
  | .part t => 1 :: t.bytes

/-- The check byte: with it the sum is 0 modulo 256 (R184). -/
def checkByte (bytes : List Nat) : Nat := (256 - bytes.sum % 256) % 256

/-- A frame from its kind, tag and body (R184). -/
def frameBytes (kind tag : Nat) (body : List Nat) : List Nat :=
  let inner := (body.length + 2) :: kind :: tag :: body
  0xE7 :: inner ++ [checkByte inner]

/-- The bytes of a frame the part sends. -/
def Frame.bytes (f : Frame) : List Nat := frameBytes f.kind f.tag f.body

/-! ## Frames received (R185) -/

/-- Why a run of bytes, from a frame's start byte, is a rejected frame: a length outside 2–242 as soon as it is there,
or a whole frame whose sum is not 0. -/
def rejection : List Nat → Option RejectReason
  | 0xE7 :: n :: rest =>
    if n < 2 ∨ 242 < n then (if rest = [] then some .length else none)
    else if rest.length = n + 1 ∧ (n + rest.sum) % 256 ≠ 0 then some .check
    else none
  | _ => none

/-- Whether a run of bytes is a frame begun and not yet ended. -/
def unfinished : List Nat → Bool
  | [0xE7] => true
  | 0xE7 :: n :: rest => 2 ≤ n && n ≤ 242 && rest.length < n + 1
  | _ => false

/-! ## Request bodies -/

/-- The bytes of the value of a PORT SETUP field (R184, R190): one for a setting of 0–255 or an enumeration, two for a
length or a time, a string for the answerbacks. A field no rule names has its value as it stands. -/
def settingBytes (s : Setting) : List Nat :=
  match s.field with
  | 5 | 6 | 9 | 14 | 15 | 19 | 21 | 29 => two s.num
  | 16 | 18 => run s.text
  | f => if f ≤ 30 then [s.num] else s.text

/-- A destination set given by its ports. -/
def portsBytes (l : List Nat) : List Nat := setBytes (setOfList l)

/-- The kind and body of a request's frame (R184, R186); none for a command that is no request. -/
def requestFrame : Instr → Option (Nat × List Nat)
  | .portSetup _ p l => some (1, p :: l.length :: (l.map fun s => s.field :: settingBytes s).flatten)
  | .portStart _ p => some (2, [p])
  | .portStopDrain _ p => some (3, [p, 0])
  | .portStopCut _ p => some (3, [p, 1])
  | .partSetup _ a b => some (4, optional (fun n => [n]) a ++ optional two b)
  | .tableLoad _ t h s l => some (5, t :: h :: s :: l.length :: (l.map fun e => [e.kind, e.code]).flatten)
  | .markerSet _ a b c d e => some (6, run a ++ run b ++ run c ++ run d ++ run e)
  | .routeSet _ (.default l) => some (7, 255 :: portsBytes l)
  | .routeSet _ (.unused n) => some (7, [n, 0])
  | .routeSet _ (.entry n a b l) => some (7, n :: 1 :: a :: b :: portsBytes l)
  | .keywordSet _ n .unused => some (8, [n, 0])
  | .keywordSet _ n (.text t a) => some (8, n :: 1 :: run t ++ [a])
  | .clockSet _ s d => some (9, three s ++ two d)
  | .identify _ p => some (10, [p])
  | .storyOpen _ => some (11, [])
  | .storyAppend _ s l => some (12, s :: run l)
  | .storyClose _ s => some (13, [s])
  | .storyRead _ s o c => some (14, s :: two o ++ two c)
  | .storyList _ a s => some (15, [a, s])
  | .lineReplace _ s n l => some (16, s :: two n ++ run l)
  | .storyHold _ s => some (17, [s])
  | .storyUnhold _ s => some (18, [s])
  | .storyCancel _ s => some (19, [s])
  | .storyRelease _ s => some (20, [s])
  | .storyRequeue _ s l => some (21, s :: portsBytes l)
  | .search _ t a b => some (22, run t ++ [a, b])
  | .statusPort _ n => some (23, [0, n])
  | .statusPart _ n => some (23, [1, n])
  | .statusStory _ n => some (23, [2, n])
  | .resetTraffic _ => some (24, [0])
  | .resetFull _ => some (24, [1])
  | _ => none

/-- The tag of a request; 0 for a command that is no request. -/
def requestTag : Instr → Octet
  | .portSetup t _ _ => t
  | .portStart t _ => t
  | .portStopDrain t _ => t
  | .portStopCut t _ => t
  | .partSetup t _ _ => t
  | .tableLoad t _ _ _ _ => t
  | .markerSet t _ _ _ _ _ => t
  | .routeSet t _ => t
  | .keywordSet t _ _ => t
  | .clockSet t _ _ => t
  | .identify t _ => t
  | .storyOpen t => t
  | .storyAppend t _ _ => t
  | .storyClose t _ => t
  | .storyRead t _ _ _ => t
  | .storyList t _ _ => t
  | .lineReplace t _ _ _ => t
  | .storyHold t _ => t
  | .storyUnhold t _ => t
  | .storyCancel t _ => t
  | .storyRelease t _ => t
  | .storyRequeue t _ _ => t
  | .search t _ _ _ => t
  | .statusPort t _ => t
  | .statusPart t _ => t
  | .statusStory t _ => t
  | .resetTraffic t => t
  | .resetFull t => t
  | _ => 0

/-- A parse of a field from the front of a body. -/
abbrev Parse (α : Type) := List Nat → Option (α × List Nat)

/-- One byte. -/
def readByte : Parse Nat
  | a :: rest => some (a, rest)
  | [] => none

/-- Two bytes, the high byte first. -/
def readTwo : Parse Nat
  | a :: b :: rest => some (256 * a + b, rest)
  | _ => none

/-- Three bytes, the high byte first. -/
def readThree : Parse Nat
  | a :: b :: c :: rest => some (65536 * a + 256 * b + c, rest)
  | _ => none

/-- A count byte and that many codes. -/
def readRun : Parse (List Nat)
  | n :: rest => if n ≤ rest.length then some (rest.take n, rest.drop n) else none
  | [] => none

/-- The ports a destination set's three bytes name, in ascending order. -/
def readPorts : Parse (List Nat)
  | a :: b :: c :: rest =>
    some ((List.range 24).filter fun n =>
      (if n < 8 then a.testBit n else if n < 16 then b.testBit (n - 8) else c.testBit (n - 16)), rest)
  | _ => none

/-- One setting of a PORT SETUP; a field that no rule names takes the rest of the body. -/
def readSetting : Parse Setting
  | [] => none
  | f :: rest =>
    match f with
    | 5 | 6 | 9 | 14 | 15 | 19 | 21 | 29 => (readTwo rest).map fun x => (⟨f, x.1, []⟩, x.2)
    | 16 | 18 => (readRun rest).map fun x => (⟨f, 0, x.1⟩, x.2)
    | f => if f ≤ 30 then (readByte rest).map fun x => (⟨f, x.1, []⟩, x.2) else some (⟨f, 0, rest⟩, [])

/-- That many settings; one that no rule names is the last that can be read. -/
def readSettings : Nat → Parse (List Setting)
  | 0, body => some ([], body)
  | n + 1, body =>
    match readSetting body with
    | none => none
    | some (s, rest) =>
      if 30 < s.field then some ([s], rest)
      else (readSettings n rest).map fun x => (s :: x.1, x.2)

/-- That many table entries. -/
def readEntries : Nat → Parse (List RawEntry)
  | 0, body => some ([], body)
  | n + 1, a :: b :: rest => (readEntries n rest).map fun x => (⟨a, b⟩ :: x.1, x.2)
  | _ + 1, _ => none

/-- What a delivered frame is (R187): a request; one of a request kind whose selector or mark has a value no request
has; or none of the requests. -/
inductive Parsed where
  | request (i : Instr)
  | badParameter
  | badRequest
  deriving DecidableEq, Repr

/-- A parse that must use the body to its end. -/
def whole {α : Type} (x : Option (α × List Nat)) (f : α → Parsed) : Parsed :=
  match x with
  | some (a, []) => f a
  | _ => .badRequest

/-- A body of one byte. -/
def oneByte (body : List Nat) (f : Nat → Parsed) : Parsed :=
  match body with
  | [a] => f a
  | _ => .badRequest

/-- A body of two bytes. -/
def twoBytes (body : List Nat) (f : Nat → Nat → Parsed) : Parsed :=
  match body with
  | [a, b] => f a b
  | _ => .badRequest

/-- Whether a presence byte of a PART SETUP is neither 0 nor 1. -/
def badPresence : List Nat → Bool
  | 0 :: q :: _ => 1 < q
  | 1 :: _ :: q :: _ => 1 < q
  | p :: _ => 1 < p
  | [] => false

/-- The body of a PART SETUP. -/
def parsePartSetup (tag : Octet) (body : List Nat) : Parsed :=
  match body with
  | [0, 0] => .request (.partSetup tag none none)
  | [0, 1, h, l] => .request (.partSetup tag none (some (256 * h + l)))
  | [1, a, 0] => .request (.partSetup tag (some a) none)
  | [1, a, 1, h, l] => .request (.partSetup tag (some a) (some (256 * h + l)))
  | _ => if badPresence body then .badParameter else .badRequest

/-- The body of a MARKER SET: five runs. -/
def parseMarkers (tag : Octet) (body : List Nat) : Parsed :=
  match readRun body with
  | none => .badRequest
  | some (a, b1) =>
    match readRun b1 with
    | none => .badRequest
    | some (b, b2) =>
      match readRun b2 with
      | none => .badRequest
      | some (c, b3) =>
        match readRun b3 with
        | none => .badRequest
        | some (d, b4) => whole (readRun b4) fun e => .request (.markerSet tag a b c d e)

/-- The body of a ROUTE SET. -/
def parseRoute (tag : Octet) : List Nat → Parsed
  | 255 :: rest => whole (readPorts rest) fun l => .request (.routeSet tag (.default l))
  | [n, 0] => .request (.routeSet tag (.unused n))
  | n :: 1 :: a :: b :: rest => whole (readPorts rest) fun l => .request (.routeSet tag (.entry n a b l))
  | _ :: p :: _ => if 1 < p then .badParameter else .badRequest
  | _ => .badRequest

/-- The body of a KEYWORD SET. -/
def parseKeyword (tag : Octet) : List Nat → Parsed
  | [n, 0] => .request (.keywordSet tag n .unused)
  | n :: 1 :: rest =>
    match readRun rest with
    | some (t, [a]) => .request (.keywordSet tag n (.text t a))
    | _ => .badRequest
  | _ :: p :: _ => if 1 < p then .badParameter else .badRequest
  | _ => .badRequest

/-- The body of a STORY READ. -/
def parseRead (tag : Octet) : List Nat → Parsed
  | [s, a, b, c, d] => .request (.storyRead tag s (256 * a + b) (256 * c + d))
  | _ => .badRequest

/-- The body of a SEARCH. -/
def parseSearch (tag : Octet) (body : List Nat) : Parsed :=
  match readRun body with
  | some (t, [a, b]) => .request (.search tag t a b)
  | _ => .badRequest

/-- The body of a PORT STOP (R194). -/
def parseStop (tag : Octet) (body : List Nat) : Parsed :=
  twoBytes body fun p kind =>
    match kind with
    | 0 => .request (.portStopDrain tag p)
    | 1 => .request (.portStopCut tag p)
    | _ => .badParameter

/-- The body of a STATUS (R195). -/
def parseStatus (tag : Octet) (body : List Nat) : Parsed :=
  twoBytes body fun selector n =>
    match selector with
    | 0 => .request (.statusPort tag n)
    | 1 => .request (.statusPart tag n)
    | 2 => .request (.statusStory tag n)
    | _ => .badParameter

/-- The body of a RESET (R200). -/
def parseReset (tag : Octet) (body : List Nat) : Parsed :=
  oneByte body fun selector =>
    match selector with
    | 0 => .request (.resetTraffic tag)
    | 1 => .request (.resetFull tag)
    | _ => .badParameter

/-- A byte and what a parse reads after it, to the body's end. -/
def afterByte {α : Type} (body : List Nat) (p : Parse α) (f : Nat → α → Parsed) : Parsed :=
  match body with
  | a :: rest => whole (p rest) (f a)
  | [] => .badRequest

/-- What a delivered frame is, by its kind and its body (R186, R187). -/
def parseFrame (kind : Nat) (tag : Octet) (body : List Nat) : Parsed :=
  match kind with
  | 1 =>
    match body with
    | p :: n :: rest => whole (readSettings n rest) fun l => .request (.portSetup tag p l)
    | _ => .badRequest
  | 2 => oneByte body fun p => .request (.portStart tag p)
  | 3 => parseStop tag body
  | 4 => parsePartSetup tag body
  | 5 =>
    match body with
    | t :: h :: s :: n :: rest => whole (readEntries n rest) fun l => .request (.tableLoad tag t h s l)
    | _ => .badRequest
  | 6 => parseMarkers tag body
  | 7 => parseRoute tag body
  | 8 => parseKeyword tag body
  | 9 =>
    match readThree body with
    | some (s, [a, b]) => .request (.clockSet tag s (256 * a + b))
    | _ => .badRequest
  | 10 => oneByte body fun p => .request (.identify tag p)
  | 11 => if body = [] then .request (.storyOpen tag) else .badRequest
  | 12 => afterByte body readRun fun s l => .request (.storyAppend tag s l)
  | 13 => oneByte body fun s => .request (.storyClose tag s)
  | 14 => parseRead tag body
  | 15 => twoBytes body fun a s => .request (.storyList tag a s)
  | 16 =>
    match body with
    | s :: a :: b :: rest => whole (readRun rest) fun l => .request (.lineReplace tag s (256 * a + b) l)
    | _ => .badRequest
  | 17 => oneByte body fun s => .request (.storyHold tag s)
  | 18 => oneByte body fun s => .request (.storyUnhold tag s)
  | 19 => oneByte body fun s => .request (.storyCancel tag s)
  | 20 => oneByte body fun s => .request (.storyRelease tag s)
  | 21 => afterByte body readPorts fun s l => .request (.storyRequeue tag s l)
  | 22 => parseSearch tag body
  | 23 => parseStatus tag body
  | 24 => parseReset tag body
  | _ => .badRequest

end Sys2Proof.Machine
end

