-- ==== Sys2Proof/Machine/Link.lean ====
section
/-! DEFINITION. The control link's events (chapter 11): resets and readiness, frames received and rejected, frames sent,
and long replies. -/

namespace Sys2Proof.Machine

/-! ## Whole-part resets and RESET -/

/-- Power-on (R199). -/
def execPowerOn (strapFirst strapSecond : Bool) (s : State) : Answer := .next (s.wholeReset strapFirst strapSecond)

/-- The reset pin (R199). -/
def execResetPin (strapFirst strapSecond : Bool) (s : State) : Answer := .next (s.wholeReset strapFirst strapSecond)

/-- A RESET request is taken (R200, R201). -/
def State.takeReset (s : State) (tag : Octet) (kind : ResetKind) : State :=
  if s.room.link.canTake then (s.inRoom fun k r => r.takeReset k kind tag).finish else s

/-- RESET TRAFFIC (R200). -/
def execResetTraffic (tag : Octet) (s : State) : Answer := .next (s.takeReset tag .traffic)

/-- RESET FULL (R201). -/
def execResetFull (tag : Octet) (s : State) : Answer := .next (s.takeReset tag .full)

/-- A waiting reset goes on when its next reply has a place (R187). -/
def execResetExecutionResumes (s : State) : Answer :=
  .next (match s.room.link.resetting with
    | some ⟨kind, x :: rest⟩ =>
      if s.room.link.replies.length < 8 then (s.inRoom fun k r => r.runReset k kind (x :: rest)).finish else s
    | _ => s)

/-- The end of RESET FULL's DONE frame (R201): taken once every reply has left the queue. -/
def execResetFullComplete (strapFirst strapSecond : Bool) (s : State) : Answer :=
  .next (if s.room.link.resetting = some ⟨.full, []⟩ ∧ s.room.link.replies = [] then
      s.wholeReset strapFirst strapSecond
    else s)

/-! ## Frames received -/

/-- A delivered frame that is no request (R187), or whose selector no request has (R194, R195, R200). A frame that is
one of the requests is that request's command, and nothing happens here. -/
def execBadRequest (tag kind : Octet) (body : List Octet) (s : State) : Answer :=
  .next (match parseFrame kind.toNat tag (body.map BitVec.toNat) with
    | .request _ => s
    | .badParameter => s.request fun s => s.refuse tag .badParameter
    | .badRequest => s.request fun s => s.refuse tag .badRequest)

/-- A frame is rejected with a reason and the receiver is in HUNT (R185). -/
def State.rejectFrame (s : State) (reason : RejectReason) : State :=
  (s.inRoom fun _ r => r.modLink fun k => { k with rx := .hunt }.rejectFrame reason).finish

/-- A frame rejected for its length or its sum (R185). -/
def execFrameRejected (bytes : List Octet) (s : State) : Answer :=
  .next (match rejection (bytes.map BitVec.toNat) with
    | some reason => if s.room.link.canTake then s.rejectFrame reason else s
    | none => s)

/-- A RESET FULL is in execution (R201). -/
def Link.resettingFull (k : Link) : Bool := k.resetting.any fun x => x.kind == .full

/-- Whether a frame can be in progress (R185, R201): the receiver is in HUNT or FRAME, and no RESET FULL is in execution.
Clear-to-send may have gone off since the frame's last byte. -/
def Link.receiving (k : Link) : Bool := (k.rx == .hunt || k.rx == .frame) && !k.resettingFull

/-- More than 10 ms between two bytes of a frame (R185): the bytes have come by the tick at which the command is taken,
and it ends at the first tick more than 10 ms later (log entry 3), clear-to-send on or off. -/
def execFrameGapTimeout (bytes : List Octet) (s : State) : Answer :=
  .next (if s.room.link.receiving ∧ unfinished (bytes.map BitVec.toNat) then
      (s.reach (s.time.ticks + 10 * Config.ticksPerMs + 1)).rejectFrame .gap
    else s)

/-- A byte that arrives with clear-to-send off (R183, R185): the frame it belongs to, or would have begun, is rejected
FLOW, and the receiver enters DISCARD, where further bytes add no rejection. -/
def Link.discard (k : Link) (bytes : List Nat) (tick : Nat) : Link :=
  let k := if k.rx ≠ .discard ∧ bytes.head? = some 0xE7 then k.rejectFrame .flow else k
  { k with rx := .discard, quietFrom := tick }

/-- A byte discarded for flow, or in DISCARD with clear-to-send on, where it puts off the exit alone (R183, R185). Before
READY and under RESET FULL bytes are discarded and nothing more (R199, R201). -/
def execFlowDiscard (bytes : List Octet) (s : State) : Answer :=
  .next (
    let k := s.room.link
    if (k.clearToSend && k.rx != .discard) || k.rx == .idle || k.resettingFull || bytes.isEmpty then s
    else (s.inRoom fun c r => r.modLink fun k => k.discard (bytes.map BitVec.toNat) c.time.ticks).finish)

/-- DISCARD ends when clear-to-send is on and 10 ms have passed with no byte (R185). -/
def execDiscardQuietExit (s : State) : Answer :=
  .next (
    let k := s.room.link
    if k.rx = .discard ∧ k.clearToSend then
      ((s.reach (k.quietFrom + 10 * Config.ticksPerMs)).inRoom fun _ r => r.modLink fun k =>
        { k with rx := .hunt }).finish
    else s)

/-! ## Frames sent -/

/-- The level on one direction of the link at a bit time of a run of bytes sent without a gap (R183): each byte a character
of ten bit times, a start bit, eight data bits with the least significant first and one stop bit, and mark at rest. The bit
times last as long as `Link.rate` gives, which is not counted (log entry 3). -/
def linkLevel (bytes : List Nat) (bit : Nat) : Level :=
  match bytes[bit / 10]? with
  | some b => elementLevel 8 b (bit % 10)
  | none => .mark

/-- The level on the link's send pin at a bit time since the frame in transmission began (R183, R184). -/
def Link.sendPin (k : Link) (bit : Nat) : Level :=
  match k.txFrame with
  | some f => linkLevel f.bytes bit
  | none => .mark

/-- The last byte of a frame has ended; after READY the receiver enters HUNT and the part is ready (R199). -/
def Link.sent (k : Link) : Link :=
  match k.txFrame with
  | some (.part _) =>
    if k.ready then { k with txFrame := none } else { k with txFrame := none, ready := true, rx := .hunt }
  | _ => { k with txFrame := none }

/-- A frame has been sent and the transmitter takes the next (R187). -/
def execFrameSent (s : State) : Answer := .next (s.inRoom fun _ r => r.modLink Link.sent).finish

/-- The oldest waiting long reply joins the queue when it has a place (R188). -/
def Link.queueLong (k : Link) : Link :=
  match k.waiting with
  | (_, reply) :: rest =>
    if k.replies.length < 8 then { k with waiting := rest }.queueReply reply else k
  | [] => k

/-- A long reply that waited joins the reply queue (R188). -/
def execLongReplyQueued (s : State) : Answer := .next (s.inRoom fun _ r => r.modLink Link.queueLong).finish

end Sys2Proof.Machine
end

