-- ==== Sys2Proof/Machine/PartRequests.lean ====
section
/-! DEFINITION. The requests on the part's settings: PART SETUP, TABLE LOAD, MARKER SET, ROUTE SET, KEYWORD SET and
CLOCK SET. -/

namespace Sys2Proof.Machine

/-- The part settings written, then work in the room with them in force. -/
def State.setPart (s : State) (part : Part) (f : Ctx → Room → Room) : State :=
  { s with part := part }.inRoom f

/-- PART SETUP (R192): both values checked, both written, and the reclaim test for a new threshold (R71). -/
def State.setupPart (s : State) (tag : Octet) (lede threshold : Option Nat) : State × Reply :=
  if lede.any (15 < ·) || threshold.any (256 < ·) then s.refuse tag .badParameter
  else
    let part := { s.part with lede := lede.getD s.part.lede, threshold := threshold.getD s.part.threshold }
    (s.setPart part fun k r => if threshold.isSome then r.reclaimTest k else r, doneReply tag .none)

/-- PART SETUP (R192). -/
def execPartSetup (tag : Octet) (lede threshold : Option Nat) (s : State) : Answer :=
  .next (s.request fun s => s.setupPart tag lede threshold)

/-- A side of each line in service whose refresh source is the loaded template is marked, and refreshes at once at its
safe point (R8, R13, R14). -/
def Room.refreshSides (k : Ctx) (t : Fin 4) (r : Room) : Room :=
  allLines.foldl
    (fun r l =>
      if r.ports[linePort l].inService then
        (r.modDecoder l fun d => d.tableLoaded t k.part.templates).modSender l fun x =>
          x.tableLoaded t k.part.templates
      else r)
    r

/-- The entries of a run, when every one is valid (R6). -/
def runEntries : List RawEntry → Option (List Entry)
  | [] => some []
  | e :: rest =>
    match RawEntry.entry e, runEntries rest with
    | some x, some l => some (x :: l)
    | _, _ => none

/-- TABLE LOAD (R6, R7). -/
def State.loadTable (s : State) (tag : Octet) (table half start : Nat) (entries : List RawEntry) : State × Reply :=
  match caseOf half, runEntries entries with
  | some c, some list =>
    if h : table < 4 then
      if 31 < start ∨ entries.length = 0 ∨ 64 < entries.length then s.refuse tag .badParameter
      else
        let t := s.part.templates[table]
        let t := t.withHalf c ((t.half c).load start list)
        (s.setPart { s.part with templates := s.part.templates.set table t } fun k r => r.refreshSides k ⟨table, h⟩,
          doneReply tag (.entriesTaken (min entries.length (32 - start))))
    else s.refuse tag .badParameter
  | _, _ => s.refuse tag .badParameter

/-- TABLE LOAD (R6, R7). -/
def execTableLoad (tag : Octet) (table half start : Nat) (entries : List RawEntry) (s : State) : Answer :=
  .next (s.request fun s => s.loadTable tag table half start entries)

/-- A marker of 2 to 6 letters (R41). -/
def isMarker (t : List Nat) : Bool := inRange 2 6 t.length && t.all isLetter

/-- No text of a list equals another or is a prefix of another (R41). -/
def prefixFree : List (List Nat) → Bool
  | [] => true
  | a :: rest => rest.all (fun b => !a.isPrefixOf b && !b.isPrefixOf a) && prefixFree rest

/-- The five markers of a set, in the order of R41. -/
def MarkerSet.list (m : MarkerSet) : List (List Nat) := [m.opn, m.cls, m.brk, m.res, m.vd]

/-- Every assembler whose window is empty matches against the new set (R42). -/
def Room.adoptAll (k : Ctx) (r : Room) : Room := allLines.foldl (fun r l => r.adoptMarkers k l) r

/-- MARKER SET (R41, R42). -/
def State.setMarkers (s : State) (tag : Octet) (opn cls brk res vd : List Nat) : State × Reply :=
  let m : MarkerSet := ⟨opn.map upper, cls.map upper, brk.map upper, res.map upper, vd.map upper⟩
  if m.list.all isMarker && prefixFree m.list then
    (s.setPart { s.part with markers := m } fun k r => r.adoptAll k, doneReply tag .none)
  else s.refuse tag .badParameter

/-- MARKER SET (R41, R42). -/
def execMarkerSet (tag : Octet) (opn cls brk res vd : List Nat) (s : State) : Answer :=
  .next (s.request fun s => s.setMarkers tag opn cls brk res vd)

/-- A pattern position: a letter or '*' (R100). -/
def isPattern (c : Nat) : Bool := isLetter c || c = 42

/-- A destination set names ports 0–23 alone (R100). -/
def isPortList (l : List Nat) : Bool := l.all fun n => n < 24

/-- ROUTE SET (R100). -/
def State.setRoute (s : State) (tag : Octet) (arg : RouteArg) : State × Reply :=
  match arg with
  | .default dest =>
    if isPortList dest then ({ s with part := { s.part with defaultSet := setOfList dest } }, doneReply tag .none)
    else s.refuse tag .badParameter
  | .unused n =>
    if h : n < 48 then
      ({ s with part := { s.part with routes := s.part.routes.set n none } }, doneReply tag .none)
    else s.refuse tag .badParameter
  | .entry n a b dest =>
    if h : n < 48 then
      if isPattern a && isPattern b && isPortList dest then
        ({ s with part :=
            { s.part with routes := s.part.routes.set n (some ⟨upper a, upper b, setOfList dest⟩) } },
          doneReply tag .none)
      else s.refuse tag .badParameter
    else s.refuse tag .badParameter

/-- ROUTE SET (R100). -/
def execRouteSet (tag : Octet) (arg : RouteArg) (s : State) : Answer :=
  .next (s.request fun s => s.setRoute tag arg)

/-- A keyword action by its number (R88). -/
def actionOf (n : Nat) : Option KeywordAction :=
  match n with
  | 0 => some .note
  | 1 => some .raise
  | 2 => some .stop
  | _ => none

/-- An entry number leaves the keyword set of every ASSEMBLING story (R89). -/
def Room.forgetKeyword (i : Fin 24) (r : Room) : Room :=
  allSlots.foldl
    (fun r slot =>
      if r.stories[slot].state = .assembling then r.modStory slot fun s => { s with keywords := s.keywords.set i false }
      else r)
    r

/-- A keyword entry is written; its number leaves the sets of ASSEMBLING stories unless its text stays (R89). -/
def State.writeKeyword (s : State) (tag : Octet) (i : Fin 24) (e : Option Keyword) : State × Reply :=
  let same := e.isSome && s.part.keywords[i].map (fun k => k.text) == e.map fun k => k.text
  (s.setPart { s.part with keywords := s.part.keywords.set i e } fun _ r => if same then r else r.forgetKeyword i,
    doneReply tag .none)

/-- KEYWORD SET (R89). -/
def State.setKeyword (s : State) (tag : Octet) (entry : Nat) (arg : KeywordArg) : State × Reply :=
  if h : entry < 24 then
    match arg with
    | .unused => s.writeKeyword tag ⟨entry, h⟩ none
    | .text codes action =>
      match actionOf action with
      | some a =>
        if isKeywordText (codes.map upper) then s.writeKeyword tag ⟨entry, h⟩ (some ⟨codes.map upper, a⟩)
        else s.refuse tag .badParameter
      | none => s.refuse tag .badParameter
  else s.refuse tag .badParameter

/-- KEYWORD SET (R89). -/
def execKeywordSet (tag : Octet) (entry : Nat) (arg : KeywordArg) (s : State) : Answer :=
  .next (s.request fun s => s.setKeyword tag entry arg)

/-- CLOCK SET (R81): the next advance comes 100,000 ticks later. -/
def State.setClock (s : State) (tag : Octet) (seconds day : Nat) : State × Reply :=
  if seconds ≤ 86399 ∧ day ≤ 255 then
    ({ s with time := { s.time with clock := ⟨seconds, day⟩, clockFrom := s.time.ticks } }, doneReply tag .none)
  else s.refuse tag .badParameter

/-- CLOCK SET (R81). -/
def execClockSet (tag : Octet) (seconds day : Nat) (s : State) : Answer :=
  .next (s.request fun s => s.setClock tag seconds day)

end Sys2Proof.Machine
end

