-- ==== Sys2Proof/Machine/StoryRequests.lean ====
section
/-! DEFINITION. The requests on stories: chapter 4's STORY OPEN, APPEND, CLOSE, READ, LIST and LINE REPLACE, and
chapter 6's STORY HOLD, UNHOLD, CANCEL, RELEASE and REQUEUE. -/

namespace Sys2Proof.Machine

/-! ## Host stories -/

/-- A host story ASSEMBLING and not yet closed (R73). -/
def Story.hostOpen (s : Story) : Bool := s.state == .assembling && s.origin == some .host && !s.closed

/-- The number of host stories ASSEMBLING and not yet closed (R73). -/
def Room.hostStories (r : Room) : Nat := (allSlots.filter fun slot => r.stories[slot].hostOpen).length

/-- STORY OPEN (R73). With eight host stories open and no slot to be had the refusal is BUSY (log entry 36). -/
def State.openHost (s : State) (tag : Octet) : State × Reply :=
  if 8 ≤ s.room.hostStories then s.refuse tag .busy
  else
    match s.room.openSlot with
    | none => s.refuse tag .storeFull
    | some slot => (s.inRoom fun k r => r.openStory k slot .host 8192, doneReply tag (.slot slot))

/-- STORY OPEN (R73). -/
def execStoryOpen (tag : Octet) (s : State) : Answer := .next (s.request fun s => s.openHost tag)

/-- The counts of a STORY APPEND so far (R74). -/
structure Appended where
  taken    : Nat
  rejected : Nat
  notTaken : Nat
  stop     : Option AppendStop
  deriving DecidableEq, Repr

/-- A valid cell is written to a host story; its garble mark is counted (R74). -/
def Room.appendCell (k : Ctx) (slot : Fin 256) (c : Cell) (r : Room) : Room :=
  let r := r.writeCell k slot c
  if c = 128 then r.modStory slot fun s => { s with garbles := s.garbles + 1 } else r

/-- The run of a STORY APPEND, cell by cell (R74). With the length at its limit and the pool empty the length limit is
what stops the writing (log entry 41). -/
def Room.appendRun (k : Ctx) (slot : Fin 256) : List Nat → Room × Appended → Room × Appended
  | [], x => x
  | c :: rest, (r, n) =>
    let s := r.stories[slot]
    if !isAppendable c then Room.appendRun k slot rest (r, { n with rejected := n.rejected + 1 })
    else if 8192 ≤ s.text.length then (r, { n with notTaken := rest.length + 1, stop := some .lengthLimit })
    else if s.text.length < 64 * s.chain.length then
      Room.appendRun k slot rest (r.appendCell k slot c, { n with taken := n.taken + 1 })
    else if 0 < r.freeCount then
      Room.appendRun k slot rest ((r.allocate k slot).appendCell k slot c, { n with taken := n.taken + 1 })
    else (r, { n with notTaken := rest.length + 1, stop := some .emptyPool })

/-- STORY APPEND (R74). A run too long is refused for its length, whatever the slot holds (log entry 36). -/
def State.appendHost (s : State) (tag : Octet) (slot : Nat) (cells : List Nat) : State × Reply :=
  match slotOf slot with
  | none => s.refuse tag .badParameter
  | some slot =>
    if 200 < cells.length then s.refuse tag .badParameter
    else if !s.room.stories[slot].hostOpen then s.refuse tag .sequence
    else
      let (room, n) := Room.appendRun s.ctx slot cells (s.room, ⟨0, 0, 0, none⟩)
      ({ s with room := room }, doneReply tag (.append n.taken n.rejected n.notTaken n.stop))

/-- STORY APPEND (R74). -/
def execStoryAppend (tag : Octet) (slot : Nat) (cells : List Nat) (s : State) : Answer :=
  .next (s.request fun s => s.appendHost tag slot cells)

/-- STORY CLOSE (R75). -/
def State.closeHost (s : State) (tag : Octet) (slot : Nat) : State × Reply :=
  match slotOf slot with
  | none => s.refuse tag .badParameter
  | some slot =>
    if !s.room.stories[slot].hostOpen then s.refuse tag .sequence
    else (s.inRoom fun k r => r.handOn k slot .closed, doneReply tag (.slot slot))

/-- STORY CLOSE (R75). -/
def execStoryClose (tag : Octet) (slot : Nat) (s : State) : Answer := .next (s.request fun s => s.closeHost tag slot)

/-! ## Reading and listing -/

/-- STORY READ (R76). A count out of range is refused for that, whatever the slot holds (log entry 36). -/
def State.readStory (s : State) (tag : Octet) (slot offset count : Nat) : State × Reply :=
  match slotOf slot with
  | none => s.refuse tag .badParameter
  | some slot =>
    let x := s.room.stories[slot]
    if !inRange 1 200 count then s.refuse tag .badParameter
    else if x.state = .free then s.refuse tag .noSuchStory
    else (s, doneReply tag (.read x.state x.text.length ((x.text.drop offset).take count)))

/-- STORY READ (R76). -/
def execStoryRead (tag : Octet) (slot offset count : Nat) (s : State) : Answer :=
  .next (s.request fun s => s.readStory tag slot offset count)

/-- A summary (R77). -/
def Story.summary (slot : Fin 256) (x : Story) : Summary where
  slot := slot
  state := x.state
  held := x.held
  origin := x.origin
  effective := x.effective
  length := x.text.length
  textLines := x.textLines
  cause := x.cause
  header := x.header.map fun h => (h.key, h.category)
  filed := if x.state = .filed ∨ x.state = .settled then some (x.filed, x.pendingSet, x.doneSet, x.missedSet) else none

/-- A listed state by its number; FREE and any other value are refused (R77). -/
def listStateOf (n : Nat) : Option StoryState :=
  match n with
  | 1 => some .assembling
  | 2 => some .filed
  | 3 => some .settled
  | _ => none

/-- The slots of the stories in a state, from a slot up (R77). -/
def Room.slotsIn (r : Room) (state : StoryState) (start : Fin 256) : List (Fin 256) :=
  allSlots.filter fun slot => start ≤ slot && r.stories[slot].state == state

/-- STORY LIST (R77). -/
def State.listStories (s : State) (tag : Octet) (state start : Nat) : State × Reply :=
  match listStateOf state, slotOf start with
  | some state, some start =>
    let slots := s.room.slotsIn state start
    (s, doneReply tag
      (.list ((slots.take 7).map fun slot => (s.room.stories[slot]).summary slot) (slots.drop 7).head?))
  | _, _ => s.refuse tag .badParameter

/-- STORY LIST (R77). -/
def execStoryList (tag : Octet) (state start : Nat) (s : State) : Answer :=
  .next (s.request fun s => s.listStories tag state start)

/-! ## Amendment -/

/-- The number of text lines of a story (R78). -/
def Story.lineCount (s : Story) : Nat :=
  if s.text.getLast? = some 10 then s.textLines else s.textLines + 1

/-- The cells before text line n, its cells, and the rest from its line end on (R78). -/
def splitLine : Nat → List Cell → List Cell × List Cell × List Cell
  | 0, text => ([], text.takeWhile (· != 10), text.dropWhile (· != 10))
  | n + 1, text =>
    match text.dropWhile (· != 10) with
    | [] => (text, [], [])
    | c :: rest =>
      let (before, line, after) := splitLine n rest
      (text.takeWhile (· != 10) ++ c :: before, line, after)

/-- A LINE REPLACE that passes its checks (R79): blocks taken with the reclaim test, or freed through the arbiter from
the chain's end. -/
def Room.replaceLine (k : Ctx) (slot : Fin 256) (n : Nat) (cells : List Cell) (r : Room) : Room :=
  let s := r.stories[slot]
  let (before, line, after) := splitLine n s.text
  let text := before ++ cells ++ after
  let old := blocksFor s.text.length
  let new := blocksFor text.length
  let r := r.modStory slot fun s =>
    { s with text := text, garbles := s.garbles - garbleMarks line + garbleMarks cells }
  if old < new then r.allocateMany k slot (new - old)
  else (r.modStory slot fun s => { s with chain := s.chain.take new }).freeBlocks k (s.chain.drop new)

/-- LINE REPLACE, its checks in the order of R78. -/
def State.replace (s : State) (tag : Octet) (slot line : Nat) (cells : List Nat) : State × Reply :=
  match slotOf slot with
  | none => s.refuse tag .badParameter
  | some slot =>
    let x := s.room.stories[slot]
    let new := x.text.length - (splitLine line x.text).2.1.length + cells.length
    if 200 < cells.length ∨ line < 1 then s.refuse tag .badParameter
    else if x.state = .free then s.refuse tag .noSuchStory
    else if x.state ≠ .filed ∨ x.begun then s.refuse tag .wrongState
    else if !cells.all isReplaceable then s.refuse tag .badParameter
    else if x.lineCount ≤ line then s.refuse tag .badParameter
    else if x.limit < new then s.refuse tag .badParameter
    else if s.room.freeCount < blocksFor new - blocksFor x.text.length then s.refuse tag .storeFull
    else (s.inRoom fun k r => r.replaceLine k slot line cells, doneReply tag (.length new))

/-- LINE REPLACE (R78, R79). -/
def execLineReplace (tag : Octet) (slot line : Nat) (cells : List Nat) (s : State) : Answer :=
  .next (s.request fun s => s.replace tag slot line cells)

/-! ## The dispatcher's requests -/

/-- A request on one story: BAD PARAMETER for a slot above 255, NO SUCH STORY for a FREE slot (R111). -/
def State.onStory (s : State) (tag : Octet) (slot : Nat) (work : Fin 256 → Story → State × Reply) : State × Reply :=
  match slotOf slot with
  | none => s.refuse tag .badParameter
  | some slot =>
    if s.room.stories[slot].state = .free then s.refuse tag .noSuchStory else work slot s.room.stories[slot]

/-- STORY HOLD (R111). -/
def execStoryHold (tag : Octet) (slot : Nat) (s : State) : Answer :=
  .next (s.request fun s => s.onStory tag slot fun slot x =>
    if x.state = .assembling then s.refuse tag .wrongState
    else s.done tag fun _ r => r.modStory slot fun x => { x with held := true })

/-- STORY UNHOLD (R111). -/
def execStoryUnhold (tag : Octet) (slot : Nat) (s : State) : Answer :=
  .next (s.request fun s => s.onStory tag slot fun slot x =>
    if x.state = .assembling then s.refuse tag .wrongState
    else s.done tag fun k r => r.unhold k slot)

/-- STORY CANCEL (R112). -/
def execStoryCancel (tag : Octet) (slot : Nat) (s : State) : Answer :=
  .next (s.request fun s => s.onStory tag slot fun slot x =>
    match x.state with
    | .filed =>
      (s.inRoom fun k r => r.cancelStory k slot, doneReply tag (.ports (setMembers x.pendingSet).length))
    | .settled => (s, doneReply tag (.ports 0))
    | _ => s.refuse tag .wrongState)

/-- STORY RELEASE (R115). -/
def execStoryRelease (tag : Octet) (slot : Nat) (s : State) : Answer :=
  .next (s.request fun s => s.onStory tag slot fun slot x =>
    if x.state = .settled ∧ x.held = false then s.done tag fun k r => r.freeStory k slot .released
    else s.refuse tag .wrongState)

/-- STORY REQUEUE (R114). -/
def execStoryRequeue (tag : Octet) (slot : Nat) (dest : List Nat) (s : State) : Answer :=
  .next (s.request fun s => s.onStory tag slot fun slot x =>
    if dest = [] ∨ isPortList dest = false then s.refuse tag .badParameter
    else if x.state = .assembling then s.refuse tag .wrongState
    else
      let (room, added, missed) := s.room.requeue s.ctx slot (setOfList dest)
      ({ s with room := room }, doneReply tag (.requeued added missed)))

end Sys2Proof.Machine
end

