-- ==== Sys2Proof/Machine/Search.lean ====
section
/-! DEFINITION. SEARCH and the examination of slots (5.5). -/

namespace Sys2Proof.Machine

/-- The checks of SEARCH: the detail code of the first failure (R94). -/
def State.searchRefusal (s : State) (text : List Nat) (first last : Nat) : Option Detail :=
  if !isKeywordText (text.map upper) || 255 < first || 255 < last || last < first then some .badParameter
  else if s.room.search.isSome then some .busy
  else none

/-- A search starts, with its long-request record (R94, R188). -/
def Room.startSearch (tag : Octet) (text : List Nat) (first last : Nat) (r : Room) : Room :=
  let r := r.modLink fun k => { k with records := k.records ++ [⟨.search, tag⟩] }
  { r with search := some ⟨text.map upper, last, first, []⟩ }

/-- SEARCH (R94): refused, or a long request with no reply at its take. -/
def execSearch (tag : Octet) (text : List Nat) (first last : Nat) (s : State) : Answer :=
  .next (match s.searchRefusal text first last with
    | some d => s.request fun s => s.refuse tag d
    | none =>
      if s.room.link.canTake then (s.inRoom fun _ r => r.startSearch tag text first last).finish else s)

/-- The hit of a story at its examination, if it is FILED or SETTLED and its text holds the string (R95, R96). -/
def Story.hit (text : List Nat) (slot : Fin 256) (x : Story) : Option Hit :=
  if x.state = .filed ∨ x.state = .settled then
    (firstOccurrence text true 0 x.text).map fun offset => ⟨slot, x.state, offset⟩
  else none

/-- The search after the examination of its next slot (R95, R96). -/
def Search.examine (stories : Vector Story 256) (x : Search) : Search :=
  match slotOf x.next with
  | none => x
  | some slot => { x with next := x.next + 1, hits := x.hits ++ (stories[slot].hit x.text slot).toList }

/-- How a search has ended, if it has: at 32 hits, or past its last slot (R95, R97). -/
def Search.ending (x : Search) : Option SearchEnd :=
  if 32 ≤ x.hits.length ∧ x.next ≤ x.last then some (.more x.next)
  else if 32 ≤ x.hits.length ∨ x.last < x.next then some (if x.hits = [] then .notSatisfied else .complete)
  else none

/-- The running search examines its next slot, and ends or goes on (R95–R97). -/
def Room.examine (r : Room) : Room :=
  match r.search with
  | none => r
  | some x =>
    let x := x.examine r.stories
    match x.ending with
    | none => { r with search := some x }
    | some e => { r with search := none }.modLink fun k => k.postOutcome .search .done (.search x.hits e)

/-- A slot examined by the running search (R95). With no search running nothing happens. -/
def execSearchExamineSlot (s : State) : Answer := .next (s.inRoom fun _ r => r.examine).finish

end Sys2Proof.Machine
end

