-- ==== Sys2Proof/Machine/Status.lean ====
section
/-! DEFINITION. STATUS (11.7). -/

namespace Sys2Proof.Machine

/-- What STATUS reports of every port (R196). -/
def Room.portStatus (r : Room) (p : Fin 24) : PortStatus where
  inService := r.ports[p].inService
  conditions := r.ports[p].conditions
  load := r.load p
  promotion := r.ports[p].promotion
  counters := r.ports[p].counters

/-- The receive side of a line (R196). -/
def Room.receiveStatus (r : Room) (l : Fin 16) : ReceiveStatus where
  receiver := r.lines[l].receiver.state
  machine := r.lines[l].assembler.machine
  case := r.lines[l].decoder.case
  current := r.lines[l].assembler.current
  suspended := r.lines[l].assembler.suspended
  matching_ := !r.lines[l].assembler.window.isEmpty
  waiting := r.waitList[l]

/-- The kind of a suspension (R142). -/
def Suspension.kind : Suspension → SuspensionKind
  | .empty => .empty
  | .held _ => .held
  | .withdrawn => .withdrawn

/-- The slot, entry class and text lines sent of a HELD context (R142). -/
def Suspension.context : Suspension → Option (Fin 256 × Class × Nat)
  | .held c => some (c.slot, c.cls, c.linesSent)
  | _ => none

/-- The send side of a line (R196). -/
def Sender.status (s : Sender) : SendStatus where
  machine := s.machine
  case := s.case
  column := s.column
  current := s.current.map fun d => d.slot
  answerPending := s.answerPending
  suspension := s.suspension.kind
  held := s.suspension.context
  farOpen := s.farOpen
  restartVoid := s.restartVoid
  stopPending := s.stopPending
  phase := s.identify.phase
  tryNumber := s.identify.tryNumber
  collected := s.identify.collector.length

/-- The identifiers of the fields that hold a staged value on the decoder's side (R9, R33, R190). -/
def Decoder.stagedFields (d : Decoder) : List Nat :=
  (if d.stagedUnshift.isSome then [3] else []) ++ (if d.side.staged.isSome then [4] else [])

/-- The identifiers of the fields that hold a staged value on the sender's side (R9, R140, R190). -/
def Sender.stagedFields (s : Sender) : List Nat :=
  (if s.staged.unshift.isSome then [3] else []) ++ (if s.side.staged.isSome then [4] else [])
    ++ (if s.staged.width.isSome then [8] else []) ++ (if s.staged.allowance.isSome then [9] else [])
    ++ (if s.staged.minFill.isSome then [10] else []) ++ (if s.staged.fill.isSome then [11] else [])
    ++ (if s.staged.refresh.isSome then [12] else []) ++ (if s.staged.substitution.isSome then [13] else [])

/-- One side's table number, refresh flag and staged fields (R196). -/
def TableSide.status (s : TableSide) (staged : List Nat) : SideStatus := ⟨s.inForce, s.refresh, staged⟩

/-- The output of a desk by name (R166). -/
def DeskOutput.kind : DeskOutput → OutputKind
  | .none => .none
  | .story _ => .story
  | .withdrawalStart _ => .withdrawal
  | .withdrawal _ => .withdrawal

/-- A desk (R196). -/
def Desk.status (x : Desk) : DeskStatus where
  state := x.state
  pause := x.pause
  output := x.output.kind
  current := x.current.map fun d => d.slot
  buffered := x.buffer.length
  composing := x.composing

/-- The results of STATUS for a port (R196). -/
def Room.statusPort (r : Room) (p : Fin 24) : Results :=
  match portUnit p with
  | .inl l =>
    let x := r.lines[l]
    .statusLine (r.portStatus p) (r.receiveStatus l) x.sender.status (x.decoder.side.status x.decoder.stagedFields)
      (x.sender.side.status x.sender.stagedFields)
  | .inr d => .statusDesk (r.portStatus p) r.desks[d].status

/-- STATUS for a port (R195, R196). -/
def execStatusPort (tag : Octet) (port : Nat) (s : State) : Answer :=
  .next (s.request fun s =>
    match portOf port with
    | none => s.refuse tag .badParameter
    | some p => (s, doneReply tag (s.room.statusPort p)))

/-- The results of STATUS for the part (R197). -/
def State.partStatus (s : State) : PartStatus where
  freeCount := s.room.freeCount
  hostStories := s.room.hostStories
  settledLen := s.room.settled.length
  waitList := s.room.waitList
  filedCount := s.room.filedCount
  threshold := s.part.threshold
  lede := s.part.lede
  keys := s.room.stack
  searching := s.room.search.map fun x => x.next
  clock := s.time.clock
  seconds := s.time.seconds
  subjects := s.room.link.notices.length
  markers := s.part.markers

/-- STATUS for the part (R195, R197). -/
def execStatusPart (tag : Octet) (number : Nat) (s : State) : Answer :=
  .next (s.request fun s =>
    if number = 0 then (s, doneReply tag (.statusPart s.partStatus)) else s.refuse tag .badParameter)

/-- STATUS for a story (R195, R197). -/
def execStatusStory (tag : Octet) (slot : Nat) (s : State) : Answer :=
  .next (s.request fun s => s.onStory tag slot fun _ x => (s, doneReply tag (.statusStory x)))

end Sys2Proof.Machine
end

