-- ==== Sys2Proof/Machine/Dispatch.lean ====
section
/-! DEFINITION. The meaning of every command: one arm per constructor of `Instr`. -/

namespace Sys2Proof.Machine

def exec (i : Instr) (s : State) : Host.Outcome State Fault Refusal :=
  match i with
  | .powerOn strapFirst strapSecond => Sys2Proof.Machine.execPowerOn strapFirst strapSecond s
  | .resetPin strapFirst strapSecond => Sys2Proof.Machine.execResetPin strapFirst strapSecond s
  | .timingBaseSettled => Sys2Proof.Machine.execTimingBaseSettled s
  | .monotonicSecondsAdvance => Sys2Proof.Machine.execMonotonicSecondsAdvance s
  | .wireClockAdvance => Sys2Proof.Machine.execWireClockAdvance s
  | .portSetup tag port settings => Sys2Proof.Machine.execPortSetup tag port settings s
  | .portStart tag port => Sys2Proof.Machine.execPortStart tag port s
  | .portStopDrain tag port => Sys2Proof.Machine.execPortStopDrain tag port s
  | .portStopCut tag port => Sys2Proof.Machine.execPortStopCut tag port s
  | .partSetup tag lede threshold => Sys2Proof.Machine.execPartSetup tag lede threshold s
  | .tableLoad tag table half start run => Sys2Proof.Machine.execTableLoad tag table half start run s
  | .markerSet tag opn cls brk res vd => Sys2Proof.Machine.execMarkerSet tag opn cls brk res vd s
  | .routeSet tag arg => Sys2Proof.Machine.execRouteSet tag arg s
  | .keywordSet tag entry arg => Sys2Proof.Machine.execKeywordSet tag entry arg s
  | .clockSet tag seconds day => Sys2Proof.Machine.execClockSet tag seconds day s
  | .identify tag port => Sys2Proof.Machine.execIdentify tag port s
  | .storyOpen tag => Sys2Proof.Machine.execStoryOpen tag s
  | .storyAppend tag slot cells => Sys2Proof.Machine.execStoryAppend tag slot cells s
  | .storyClose tag slot => Sys2Proof.Machine.execStoryClose tag slot s
  | .storyRead tag slot offset count => Sys2Proof.Machine.execStoryRead tag slot offset count s
  | .storyList tag state start => Sys2Proof.Machine.execStoryList tag state start s
  | .lineReplace tag slot line cells => Sys2Proof.Machine.execLineReplace tag slot line cells s
  | .storyHold tag slot => Sys2Proof.Machine.execStoryHold tag slot s
  | .storyUnhold tag slot => Sys2Proof.Machine.execStoryUnhold tag slot s
  | .storyCancel tag slot => Sys2Proof.Machine.execStoryCancel tag slot s
  | .storyRelease tag slot => Sys2Proof.Machine.execStoryRelease tag slot s
  | .storyRequeue tag slot dest => Sys2Proof.Machine.execStoryRequeue tag slot dest s
  | .search tag text first last => Sys2Proof.Machine.execSearch tag text first last s
  | .searchExamineSlot => Sys2Proof.Machine.execSearchExamineSlot s
  | .statusPort tag port => Sys2Proof.Machine.execStatusPort tag port s
  | .statusPart tag number => Sys2Proof.Machine.execStatusPart tag number s
  | .statusStory tag slot => Sys2Proof.Machine.execStatusStory tag slot s
  | .resetTraffic tag => Sys2Proof.Machine.execResetTraffic tag s
  | .resetFull tag => Sys2Proof.Machine.execResetFull tag s
  | .resetExecutionResumes => Sys2Proof.Machine.execResetExecutionResumes s
  | .resetFullComplete strapFirst strapSecond => Sys2Proof.Machine.execResetFullComplete strapFirst strapSecond s
  | .badRequest tag kind body => Sys2Proof.Machine.execBadRequest tag kind body s
  | .frameRejected bytes => Sys2Proof.Machine.execFrameRejected bytes s
  | .frameGapTimeout bytes => Sys2Proof.Machine.execFrameGapTimeout bytes s
  | .flowDiscard bytes => Sys2Proof.Machine.execFlowDiscard bytes s
  | .discardQuietExit => Sys2Proof.Machine.execDiscardQuietExit s
  | .frameSent => Sys2Proof.Machine.execFrameSent s
  | .longReplyQueued => Sys2Proof.Machine.execLongReplyQueued s
  | .characterReceived line code stop => Sys2Proof.Machine.execCharacterReceived line code stop s
  | .inactivityExpiry line => Sys2Proof.Machine.execInactivityExpiry line s
  | .breakDetected line => Sys2Proof.Machine.execBreakDetected line s
  | .restore line => Sys2Proof.Machine.execRestore line s
  | .startWaitEnd line => Sys2Proof.Machine.execStartWaitEnd line s
  | .motorIdleExpiry line => Sys2Proof.Machine.execMotorIdleExpiry line s
  | .sendCharacterEnd line => Sys2Proof.Machine.execSendCharacterEnd line s
  | .identifyWindowExpiry line => Sys2Proof.Machine.execIdentifyWindowExpiry line s
  | .entryPromotion port slot => Sys2Proof.Machine.execEntryPromotion port slot s
  | .deskCharacterReceived desk value stop => Sys2Proof.Machine.execDeskCharacterReceived desk value stop s
  | .deskCharacterSent desk => Sys2Proof.Machine.execDeskCharacterSent desk s
  | .stallExpiry desk => Sys2Proof.Machine.execStallExpiry desk s
  | .markToSpaceTransition line => Sys2Proof.Machine.execMarkToSpaceTransition line s
  | .falseStart line => Sys2Proof.Machine.execFalseStart line s
  | .spaceToMarkTransition line => Sys2Proof.Machine.execSpaceToMarkTransition line s

end Sys2Proof.Machine
end

