-- ==== Sys2Proof/Safety.lean ====
section
/-! DEFINITION. What a safe run is, and the words the statements use. -/

namespace Sys2Proof.Safety

open Sys2Proof.Machine

/-- A step that answers a next state: no fault and no refusal. -/
def Goes (s : State) : Prop := ∃ t, step s = .next t

/-- The first steps of a run all go. -/
def GoesFor : Nat → State → Prop
  | 0, _ => True
  | n + 1, s => ∃ t, step s = .next t ∧ GoesFor n t

/-- The link controller can take a request (R183, R185, R187). -/
def Takes (s : State) : Prop := s.room.link.canTake = true

/-- The state with one reply more at the tail of the reply queue. -/
def replied (s : State) (reply : Reply) : State := { s with room := s.room.modLink fun k => k.queueReply reply }

/-- A request is answered DONE with results, the state else as given, and a free transmitter takes the next frame. -/
def answered (s : State) (tag : Octet) (results : Results) : Answer := .next (replied s (doneReply tag results)).finish

/-- A request is REFUSED with a detail code, nothing else changed, and a free transmitter takes the next frame. -/
def refused (s : State) (tag : Octet) (d : Detail) : Answer := .next (replied s (refusedReply tag d)).finish

/-- A template's half holds what R4 and R1 allow: no entry at a function code, and no PRINT of a code outside 32–126. -/
def halfLegal (h : Half) : Prop :=
  (∀ c : Fin 32, isFunctionCode c.val = true → h[c] = none) ∧
    ∀ (c : Fin 32) (v : Nat), h[c] = some (.print v) → 32 ≤ v ∧ v ≤ 126

/-- A marker of R41: 2 to 6 upper-case letters. -/
def markerLegal (m : List Nat) : Prop := 2 ≤ m.length ∧ m.length ≤ 6 ∧ ∀ c ∈ m, 65 ≤ c ∧ c ≤ 90

/-- A used keyword entry of R88: 3 to 15 upper-case letters, digits and spaces, none at an end and no two together. -/
def keywordLegal (k : Keyword) : Prop := isKeywordText k.text = true

/-- A used routing entry of R99: each position an upper-case letter or '*'. -/
def routeLegal (e : Route) : Prop :=
  (e.first = 42 ∨ (65 ≤ e.first ∧ e.first ≤ 90)) ∧ (e.second = 42 ∨ (65 ≤ e.second ∧ e.second ≤ 90))

/-- What the rules say of the part's settings and clock at all times: templates (R1, R4), the marker set (R41), the lede
window setting (R90), the reclaim threshold (R71), keyword entries (R88), routing entries (R99), the wire clock
(R81). -/
def Legal (s : State) : Prop :=
  (∀ t : Fin 4, halfLegal (s.part.templates[t]).letters ∧ halfLegal (s.part.templates[t]).figures) ∧
  (∀ m ∈ s.part.markers.list, markerLegal m) ∧ prefixFree s.part.markers.list = true ∧
  s.part.lede ≤ 15 ∧ s.part.threshold ≤ 256 ∧
  (∀ (i : Fin 24) (k : Keyword), s.part.keywords[i] = some k → keywordLegal k) ∧
  (∀ (i : Fin 48) (e : Route), s.part.routes[i] = some e → routeLegal e) ∧
  s.time.clock.seconds ≤ 86399 ∧ s.time.clock.day ≤ 255

/-- What the store keeps at all times (R60, R61, R67, R70): each of the 1,024 blocks is in the pool or in exactly one
chain, the free count is the pool's, and a FREE slot holds no chain; the settled list holds SETTLED stories; the current
and suspended stories of a line and the composing story of a desk are ASSEMBLING stories of its own, the two of a line
not the same. -/
def StoreLegal (s : State) : Prop :=
  (s.room.pool ++ (allSlots.map fun i => s.room.stories[i].chain).flatten).Perm (List.range 1024) ∧
  s.room.freeCount = s.room.pool.length ∧
  (∀ i : Fin 256, s.room.stories[i].state = .free → s.room.stories[i].chain = []) ∧
  (∀ i ∈ s.room.settled, s.room.stories[i].state = .settled) ∧
  (∀ (l : Fin 16) (i : Fin 256),
    s.room.lines[l].assembler.current = some i ∨ s.room.lines[l].assembler.suspended = some i →
    s.room.stories[i].state = .assembling ∧ s.room.stories[i].origin = some (.line l)) ∧
  (∀ (l : Fin 16) (i : Fin 256), s.room.lines[l].assembler.current = some i →
    s.room.lines[l].assembler.suspended ≠ some i) ∧
  (∀ (d : Fin 8) (i : Fin 256), s.room.desks[d].composing = some i →
    s.room.stories[i].state = .assembling ∧ s.room.stories[i].origin = some (.desk d))

/-- The working copies and marker sets in use keep what R1, R4 and R41 allow: each decoder's and sender's copy of a template,
and the set an assembler matches against. -/
def CopiesLegal (s : State) : Prop :=
  ∀ l : Fin 16,
    halfLegal s.room.lines[l].decoder.side.copy.letters ∧ halfLegal s.room.lines[l].decoder.side.copy.figures ∧
    halfLegal s.room.lines[l].sender.side.copy.letters ∧ halfLegal s.room.lines[l].sender.side.copy.figures ∧
    (∀ m ∈ s.room.lines[l].assembler.markers.list, markerLegal m) ∧
    prefixFree s.room.lines[l].assembler.markers.list = true

/-- A cell of the matcher window: a letter, of either case (R43). -/
def windowLetter (c : Cell) : Prop := 65 ≤ upper c ∧ upper c ≤ 90

/-- What every matcher window keeps (R43, R45): it holds letters alone, and folded to upper case it is a proper prefix of a
marker that is active in the state the receive machine is in. -/
def WindowsLegal (s : State) : Prop :=
  ∀ l : Fin 16,
    let a := s.room.lines[l].assembler
    (∀ c ∈ a.window, windowLetter c) ∧
    (a.window ≠ [] → ∃ m ∈ activeMarkers a.machine a.suspended.isSome,
      a.window.map upper <+: a.markers.letters m ∧ a.window.map upper ≠ a.markers.letters m)

/-- The slots a port holds for delivery: its queue's entries, its current delivery and its suspended story (R104). -/
def slotsHeld (s : State) (p : Fin 24) : List (Fin 256) :=
  s.room.ports[p].queue.map (fun e => e.slot) ++ ((s.room.currentOf p).map fun x => x.slot).toList ++
    (s.room.suspendedOf p).toList

/-- What deliveries keep at all times (R67, R70, R104): a port holds no story twice, each it holds is FILED with the port in
its pending set, a pending set is empty in any state but FILED and all three sets before filing, no port is in two of a
story's sets nor its own origin port in any, and the settled list names no story twice. -/
def DeliveriesLegal (s : State) : Prop :=
  (∀ p : Fin 24, (slotsHeld s p).Nodup ∧
    ∀ i ∈ slotsHeld s p, s.room.stories[i].state = .filed ∧ s.room.stories[i].pendingSet[p] = true) ∧
  (∀ (i : Fin 256) (p : Fin 24),
    let x := s.room.stories[i]
    (x.pendingSet[p] = true → x.state = .filed ∧ x.doneSet[p] = false ∧ x.missedSet[p] = false) ∧
    (x.doneSet[p] = true ∨ x.missedSet[p] = true → x.state = .filed ∨ x.state = .settled) ∧
    (x.doneSet[p] = true → x.missedSet[p] = false) ∧
    (x.state ≠ .free → x.origin.bind Origin.port? = some p →
      x.pendingSet[p] = false ∧ x.doneSet[p] = false ∧ x.missedSet[p] = false)) ∧
  s.room.settled.Nodup

/-- What every port's queue keeps at all times: a load of at most 32 (R104), the entries in order of class, FLASH first
(R105). -/
def QueuesLegal (s : State) : Prop :=
  ∀ p : Fin 24, s.room.load p ≤ 32 ∧ s.room.ports[p].queue.Pairwise fun a b => a.cls.rank ≤ b.cls.rank

/-- The number of a notice's subject: a slot, 256 more than a port's number, or 280 for the part (R198). -/
def noticeSubject : Notice → Nat
  | .story i _ => i.val
  | .port p => 256 + p.val
  | .part => 280

/-- The notice subject list never holds the same subject twice (R198). -/
def NoticesLegal (s : State) : Prop := (s.room.link.notices.map noticeSubject).Nodup

/-- The six counters of a port are within 65,535 (R36, R44, R57, R124). -/
def countersLegal (c : Counters) : Prop :=
  c.characters ≤ 65535 ∧ c.garbles ≤ 65535 ∧ c.overruns ≤ 65535 ∧ c.strays ≤ 65535 ∧ c.assembled ≤ 65535 ∧
    c.sent ≤ 65535

/-- Every port's counters are within 65,535. -/
def CountersLegal (s : State) : Prop := ∀ p : Fin 24, countersLegal s.room.ports[p].counters

/-- A marker letter with a LETTERS position begins (R125, R128): its code, behind a letters shift unless the send case is
LETTERS. -/
def letterBegins (case : SendCase) (column position now : Nat) (y : Sender) : Prop :=
  y.case = .letters ∧
  (case = .letters → y.txChar = some (.print .letters position, now) ∧ y.codes = [] ∧ y.column = column + 1) ∧
  (case ≠ .letters →
    y.txChar = some (.shift .letters, now) ∧ y.codes = [.print .letters position] ∧ y.column = column)

/-- A return sequence begins on a line (R134): the carriage return now, then the line feed and the fill codes, as many as
the column, the return allowance, the minimum fill and the character time make, 15 at most; the pending spaces are 0. -/
def returnBegins (x : Line) (now : Nat) (next : Next) (y : Sender) : Prop :=
  let n := min 15 (x.sender.settings.minFill +
    (x.sender.column * x.sender.settings.allowance + x.settings.charTicks - 1) / x.settings.charTicks)
  y.txChar = some (.cr, now) ∧ y.column = 0 ∧ y.pendingSpaces = 0 ∧
  y.codes = .lf :: List.replicate n (.fill x.sender.settings.fill) ∧
  y.activity = .ret next n x.sender.settings.fill x.sender.settings.refresh false

/-- A try of an exchange begins (R159): CALLING, the collector empty, IDENT at its position behind a figures shift unless
the send case is FIGURES. -/
def tryBegins (number position : Nat) (case : SendCase) (now : Nat) (y : Sender) : Prop :=
  y.identify.phase = .calling ∧ y.identify.tryNumber = number ∧ y.identify.collector = [] ∧ y.activity = .call ∧
  y.case = .figures ∧
  (case = .figures → y.txChar = some (.ident position, now) ∧ y.codes = []) ∧
  (case ≠ .figures → y.txChar = some (.shift .figures, now) ∧ y.codes = [.ident position])

/-- An exchange begins on a line (R157, R158): IDENTIFYING with both timers stopped and the column kept; in HUNT with an
empty window try 1 at once, and else AWAITING with try number 0 and mark held. -/
def exchangeBegins (x : Line) (request : Bool) (case : SendCase) (now : Nat) (y : Sender) : Prop :=
  y.machine = .identifying ∧ y.startTimer = none ∧ y.idleTimer = none ∧ y.identify.request = request ∧
  y.column = x.sender.column ∧
  (x.assembler.machine ≠ .hunt ∨ x.assembler.window ≠ [] →
    y.identify.phase = .awaiting ∧ y.identify.tryNumber = 0 ∧ y.identify.collector = [] ∧ y.txChar = none ∧
      y.activity = .idle ∧ y.case = case) ∧
  (∀ position : Nat, x.assembler.machine = .hunt → x.assembler.window = [] → x.sender.identPos = some position →
    tryBegins 1 position case now y)

/-- A desk's free transmitter takes the oldest character of the short output list, unless the pause flag is set; the
line-start flag follows it (R170). -/
def shortSends (x : Desk) : Desk :=
  if x.txChar ≠ none ∨ x.pause = true then x
  else match x.short with
    | [] => x
    | c :: rest => { x with short := rest, txChar := some c, lineStart := c == 10 }

/-- A bell, an echo or an erase at a desk (R170): discarded whole when the pause flag is set or the list lacks room for it,
and otherwise at the tail of the short output list, which a free transmitter takes up at once. -/
def shortOut (codes : List Nat) (x : Desk) : Desk :=
  if x.pause = true ∨ 16 < x.short.length + codes.length then x else shortSends { x with short := x.short ++ codes }

/-- An echo, when echo is on (R178). -/
def echoed (codes : List Nat) (x : Desk) : Desk := if x.settings.echo = true then shortOut codes x else x

/-- A desk in IDLE, with nothing composed and nothing delivered (R171, R180). -/
def idled (x : Desk) : Desk :=
  { x with state := .idle, output := .none, current := none, stall := none, buffer := [], composing := none }

/-- A port that filing finds no place on: a RECEIVE line, or a load of 32 (R102). -/
def TakesNoEntry (s : State) (p : Fin 24) : Prop :=
  (∃ l : Fin 16, p = linePort l ∧ s.room.lines[l].settings.mode = .receive) ∨ 32 ≤ s.room.load p

/-- Every port of a set is OUT, so that an entry placed on it is taken by none (R102, R108). -/
def AllOut (s : State) (dest : PortSet) : Prop :=
  ∀ p : Fin 24, dest[p] = true →
    (∀ l : Fin 16, p = linePort l → s.room.lines[l].sender.machine = .out) ∧
    ∀ d : Fin 8, p = deskPort d → s.room.desks[d].state = .out

/-- The filing of a story, its record given as it stood before, to a destination set (R102): the ports without a place are
missed, an entry of the story's class joins the tail of that class at each other one, and with no entry placed the story is
SETTLED. It is posted MISSED, FILED and SETTLED as each applies. -/
def FiledTo (s u : State) (i : Fin 256) (x : Story) (dest : PortSet) : Prop :=
  ∃ pending missed : PortSet,
    (∀ p : Fin 24, (pending[p] = true ↔ dest[p] = true ∧ ¬ TakesNoEntry s p) ∧
      (missed[p] = true ↔ dest[p] = true ∧ TakesNoEntry s p) ∧
      u.room.ports[p].queue = if pending[p] = true then queueTail ⟨i, x.effective, s.time.seconds⟩ s.room.ports[p].queue
        else s.room.ports[p].queue) ∧
    u.room.stories[i] = { x with
      state := if pending = emptySet then .settled else .filed
      filed := some s.time.clock, noticePending := true, pendingSet := pending, missedSet := missed } ∧
    u.room.settled = (if pending = emptySet then s.room.settled ++ [i] else s.room.settled) ∧
    u.room.filedCount = min (s.room.filedCount + 1) 65535 ∧
    (let filed := postStoryList i StoryKinds.ofFiled
      (if missed = emptySet then s.room.link.notices else postStoryList i StoryKinds.ofMissed s.room.link.notices)
    u.room.link.notices = if pending = emptySet then postStoryList i StoryKinds.ofSettled filed else filed)

/-- A story of a line that screening changes in nothing but its header and class: no keyword entry is used, none is in its
set, no port is in its sets, and the reclaim test frees nothing. -/
def PlainStory (s : State) (l : Fin 16) (i : Fin 256) : Prop :=
  s.room.stories[i].origin = some (.line l) ∧ s.room.stories[i].keywords = emptySet ∧
  s.room.stories[i].pendingSet = emptySet ∧ s.room.stories[i].doneSet = emptySet ∧
  s.room.stories[i].missedSet = emptySet ∧ s.part.keywords = Vector.replicate 24 none ∧
  s.part.threshold ≤ s.room.freeCount

/-- A story of a line is no duplicate (R84, R86): its line does not test, it is UNHEADED, or no key held is its key. -/
def NotDuplicate (s : State) (l : Fin 16) (text : List Cell) : Prop :=
  s.room.lines[l].settings.dedupe = false ∨ ∀ h : Header, parseHeader text = some h → h.key ∉ s.room.stack

/-- A story of a line, closed with a text, is handed on, no duplicate (R57, R87, R101, R102): its header is parsed, its key
enters the duplicate stack, and it is filed to its destination set, its own port removed. -/
def HandedOn (s u : State) (l : Fin 16) (i : Fin 256) (text : List Cell) (textLines : Nat) (cause : CloseCause) : Prop :=
  let header := parseHeader text
  let cls := match header with
    | some h => h.cls
    | none => .ordinary
  FiledTo s u i { s.room.stories[i] with
    text := text, textLines := textLines, cause := some cause, closed := true, header := header, effective := cls }
    ((s.part.route header).set (linePort l) false) ∧
  u.room.stack = (match header with
    | some h => pushKey s.room.stack h.key
    | none => s.room.stack) ∧
  u.room.scans[i] = none ∧ u.room.pool = s.room.pool

/-- The notice subject list with a port posted: it keeps its place, or joins the tail (R198). -/
def portPosted (p : Fin 24) (notices : List Notice) : List Notice :=
  if Notice.port p ∈ notices then notices else notices ++ [.port p]

/-- A line's current story as it stands when an event closes it: the cells of the matcher window have joined its text (R54,
R55), and those of the holding FIFO are dropped, each an overrun of the story and of the port, which waits for the store no
more (R35). -/
def released (s : State) (l : Fin 16) (i : Fin 256) : State :=
  let a := s.room.lines[l].assembler
  let p := s.room.ports[linePort l]
  { s with room := { s.room with
    stories := s.room.stories.set i { s.room.stories[i] with
      text := s.room.stories[i].text ++ a.window
      overruns := min (s.room.stories[i].overruns + a.fifo.length) 65535 }
    waitList := s.room.waitList.set l false
    ports := s.room.ports.set (linePort l) { p with
      counters := { p.counters with overruns := min (p.counters.overruns + a.fifo.length) 65535 }
      conditions := { p.conditions with waiting := false } }
    link := { s.room.link with
      notices := if p.conditions.waiting = true then portPosted (linePort l) s.room.link.notices
        else s.room.link.notices } } }

/-- A line outside a story whose matcher window is released: its cells are strays (R44). -/
def strayed (s : State) (l : Fin 16) : State :=
  let p := s.room.ports[linePort l]
  { s with room := { s.room with ports := s.room.ports.set (linePort l) { p with
    counters := { p.counters with
      strays := min (p.counters.strays + s.room.lines[l].assembler.window.length) 65535 } } } }

/-- The window of a line's current story can be released to it with no cell lost and no block taken: letters alone, an empty
FIFO, a chain with room and a length within the maximum; or nothing is held, be the port waiting for the store or not. -/
def ReleasesTo (s : State) (l : Fin 16) (i : Fin 256) : Prop :=
  let a := s.room.lines[l].assembler
  let n := s.room.stories[i].text.length + a.window.length
  a.window = [] ∨ a.fifo = [] ∧ s.room.waitList[l] = false ∧ (∀ c ∈ a.window, windowLetter c) ∧
    n ≤ 64 * s.room.stories[i].chain.length ∧ n ≤ s.room.lines[l].settings.maxLength

/-- A story of a line that its close with a text files to ports that are OUT, no duplicate, and does nothing else. -/
def ClosesPlainly (s : State) (l : Fin 16) (i : Fin 256) (text : List Cell) : Prop :=
  text ≠ [] ∧ PlainStory s l i ∧ NotDuplicate s l text ∧
    AllOut s ((s.part.route (parseHeader text)).set (linePort l) false)

/-- A story of a line is closed with a cause and handed on whole, from one state to another (R57): counted as assembled and
filed with the text it holds. Nothing else changes. -/
def ClosedWhole (v w : State) (l : Fin 16) (i : Fin 256) (cause : CloseCause) : Prop :=
  HandedOn v w l i v.room.stories[i].text v.room.stories[i].textLines cause ∧
  w = { v with room := { v.room with
    stories := w.room.stories, ports := w.room.ports, scans := v.room.scans.set i none, settled := w.room.settled
    filedCount := w.room.filedCount, stack := w.room.stack
    link := { v.room.link with notices := w.room.link.notices } } } ∧
  (∀ j : Fin 256, j ≠ i → w.room.stories[j] = v.room.stories[j]) ∧
  (∀ q : Fin 24, q ≠ linePort l → w.room.ports[q] = { v.room.ports[q] with queue := w.room.ports[q].queue }) ∧
  w.room.ports[linePort l] = { v.room.ports[linePort l] with
    counters := { v.room.ports[linePort l].counters with
      assembled := min (v.room.ports[linePort l].counters.assembled + 1) 65535 } }

/-- The stories a line's assembler holds are closed TRUNCATED by one event, the current one first, each handed on whole (R55,
R56, R57); with no current story the held cells are strays. -/
def ClosedTruncated (s w : State) (l : Fin 16) : Prop :=
  match s.room.lines[l].assembler.current, s.room.lines[l].assembler.suspended with
  | none, none => w = strayed s l
  | some i, none => ClosedWhole (released s l i) w l i .truncated
  | none, some j => ClosedWhole (strayed s l) w l j .truncated
  | some i, some j => ∃ v : State, ClosedWhole (released s l i) v l i .truncated ∧ ClosedWhole v w l j .truncated

/-- The stories a line's assembler holds can be closed TRUNCATED plainly: a current one in STORY, a suspended one, not the same
and not of one key. -/
def TruncatesPlainly (s : State) (l : Fin 16) : Prop :=
  let a := s.room.lines[l].assembler
  let text (i : Fin 256) : List Cell := s.room.stories[i].text ++ a.window
  countersLegal s.room.ports[linePort l].counters ∧
  (a.machine = .story ∧ a.current ≠ none ∨ a.machine = .hunt ∧ a.current = none ∧ ∀ c ∈ a.window, windowLetter c) ∧
  (∀ i : Fin 256, a.current = some i → ReleasesTo s l i ∧ ClosesPlainly s l i (text i)) ∧
  (∀ j : Fin 256, a.suspended = some j → ClosesPlainly s l j s.room.stories[j].text) ∧
  ∀ i j : Fin 256, a.current = some i → a.suspended = some j → i ≠ j ∧
    (s.room.lines[l].settings.dedupe = true → ∀ g h : Header, parseHeader (text i) = some g →
      parseHeader s.room.stories[j].text = some h → g.key ≠ h.key)

/-- Nothing eligible stands in a port's queue (R108). -/
def NoWork (s : State) (p : Fin 24) : Prop := ∀ e ∈ s.room.ports[p].queue, s.room.stories[e.slot].held = true

/-- Nothing but one line changes in the room, and the part's settings and the waiting commands stay. -/
def OnlyLine (s u : State) (l : Fin 16) : Prop :=
  u.pending = s.pending ∧ u.part = s.part ∧ u.room = { s.room with lines := u.room.lines } ∧
  ∀ m : Fin 16, m ≠ l → u.room.lines[m] = s.room.lines[m]

/-- What a whole-part reset leaves: every block as at reset, the straps as read; the levels on the receive pins are the
outside's, and the commands waiting stay. -/
def afterWholeReset (s t : State) (first second : Bool) : Prop :=
  t.pending = s.pending ∧ t.time = State.reset.time ∧ t.part = State.reset.part ∧
  t.room = { State.reset.room with
    lines := t.room.lines
    link := { State.reset.room.link with strapFirst := first, strapSecond := second } } ∧
  ∀ l : Fin 16, t.room.lines[l] =
    { State.reset.room.lines[l] with
      receiver := { State.reset.room.lines[l].receiver with pin := s.room.lines[l].receiver.pin } }

end Sys2Proof.Safety
end

