-- ==== Sys2Proof/WellFormed.lean ====
section
/-! DEFINITION. Well-formed commands: a request whose fields a frame of R184 can carry, and an event whose bytes are what
its row says. Whether a value is in the range its rule gives is no matter of form: the meanings check that. -/

namespace Sys2Proof.Machine

/-- A value of one byte. -/
def isByte (n : Nat) : Bool := n < 256

/-- A value of two bytes. -/
def isTwo (n : Nat) : Bool := n < 65536

/-- A run or string with a count byte: at most 255 codes, each one byte (R184). -/
def isRun (l : List Nat) : Bool := l.length < 256 && l.all isByte

/-- A destination set as three bytes carry it: ports 0–23 in ascending order, each once (R184). -/
def isPortSet (l : List Nat) : Bool := l == (List.range 24).filter fun n => l.contains n

/-- A setting as its field's bytes carry it (R184, R190): a string for the answerbacks, two bytes for a length or a
time, one byte for the rest; the rest of the body for a field that no rule names. -/
def isSetting (s : Setting) : Bool :=
  isByte s.field &&
    (if s.field = 16 || s.field = 18 then s.num == 0 && isRun s.text
    else if 30 < s.field then s.num == 0 && s.text.all isByte
    else if [5, 6, 9, 14, 15, 19, 21, 29].contains s.field then isTwo s.num && s.text == []
    else isByte s.num && s.text == [])

/-- The settings of a PORT SETUP: at most 255, and one that no rule names only as the last. -/
def isSettingList (l : List Setting) : Bool :=
  l.length < 256 && l.all isSetting && l.dropLast.all fun s => s.field ≤ 30

/-- The argument of a ROUTE SET; entry number 255 is the default set's (R100, R184). -/
def isRouteArg : RouteArg → Bool
  | .unused n => n < 255
  | .entry n a b l => n < 255 && isByte a && isByte b && isPortSet l
  | .default l => isPortSet l

/-- The argument of a KEYWORD SET. -/
def isKeywordArg : KeywordArg → Bool
  | .unused => true
  | .text t a => isRun t && isByte a

/-- A body a frame can hold: 240 bytes at most (R184). -/
def bodyFits (i : Instr) : Bool := (requestFrame i).all fun f => f.2.length ≤ 240

/-- The fields of a command have the form its row gives them. -/
def fieldsFit (i : Instr) : Bool :=
  match i with
  | .powerOn _ _ => true
  | .resetPin _ _ => true
  | .timingBaseSettled => true
  | .monotonicSecondsAdvance => true
  | .wireClockAdvance => true
  | .portSetup _ p l => isByte p && isSettingList l
  | .portStart _ p => isByte p
  | .portStopDrain _ p => isByte p
  | .portStopCut _ p => isByte p
  | .partSetup _ a b => a.all isByte && b.all isTwo
  | .tableLoad _ t h s l =>
    isByte t && isByte h && isByte s && isByte l.length && l.all fun e => isByte e.kind && isByte e.code
  | .markerSet _ a b c d e => isRun a && isRun b && isRun c && isRun d && isRun e
  | .routeSet _ a => isRouteArg a
  | .keywordSet _ n a => isByte n && isKeywordArg a
  | .clockSet _ s d => s < 16777216 && isTwo d
  | .identify _ p => isByte p
  | .storyOpen _ => true
  | .storyAppend _ s l => isByte s && isRun l
  | .storyClose _ s => isByte s
  | .storyRead _ s o c => isByte s && isTwo o && isTwo c
  | .storyList _ a s => isByte a && isByte s
  | .lineReplace _ s n l => isByte s && isTwo n && isRun l
  | .storyHold _ s => isByte s
  | .storyUnhold _ s => isByte s
  | .storyCancel _ s => isByte s
  | .storyRelease _ s => isByte s
  | .storyRequeue _ s l => isByte s && isPortSet l
  | .search _ t a b => isRun t && isByte a && isByte b
  | .searchExamineSlot => true
  | .statusPort _ n => isByte n
  | .statusPart _ n => isByte n
  | .statusStory _ n => isByte n
  | .resetTraffic _ => true
  | .resetFull _ => true
  | .resetExecutionResumes => true
  | .resetFullComplete _ _ => true
  | .badRequest tag kind body =>
    body.length ≤ 240 &&
      match parseFrame kind.toNat tag (body.map BitVec.toNat) with
      | .request _ => false
      | .badParameter => true
      | .badRequest => true
  | .frameRejected bytes => (rejection (bytes.map BitVec.toNat)).isSome
  | .frameGapTimeout bytes => unfinished (bytes.map BitVec.toNat)
  | .flowDiscard bytes => !bytes.isEmpty
  | .discardQuietExit => true
  | .frameSent => true
  | .longReplyQueued => true
  | .characterReceived _ _ _ => true
  | .inactivityExpiry _ => true
  | .breakDetected _ => true
  | .restore _ => true
  | .startWaitEnd _ => true
  | .motorIdleExpiry _ => true
  | .sendCharacterEnd _ => true
  | .identifyWindowExpiry _ => true
  | .entryPromotion _ _ => true
  | .deskCharacterReceived _ _ _ => true
  | .deskCharacterSent _ => true
  | .stallExpiry _ => true
  | .markToSpaceTransition _ => true
  | .falseStart _ => true
  | .spaceToMarkTransition _ => true

/-- A well-formed command. -/
def wf (i : Instr) : Bool := fieldsFit i && bodyFits i

end Sys2Proof.Machine
end

