-- ==== Sys2Proof/Certificates/Slice0/Obligations.lean ====
section
/-! DEFINITION. The statements for the provers. A statement that says what a request does is under the hypothesis that
the link controller can take it (`Takes`); what it does otherwise is `CommandsWithNoEffect`. The state a request
leaves is given before the transmitter's turn (`State.finish`), and what that turn does is `TransmitterAndWaitingReplies`. -/

open Sys2Proof Sys2Proof.Machine Sys2Proof.Safety

/-! ## Steps, resets and time -/

/-- A step takes the command at the front of the queue and is its meaning on the state with the queue's rest. With no
command waiting a step is one tick of the timing base and changes nothing else (the model's choice, log entry 3). -/
def Obligations.StepAndIdleTick : Prop :=
  (∀ (c : Instr) (rest : List Instr) (s : State), s.pending = c :: rest → step s = exec c { s with pending := rest }) ∧
  (∀ s : State, s.pending = [] →
      step s = .next { s with time := { s.time with ticks := s.time.ticks + 1 } })

/-- A command's meaning leaves the queue of waiting commands as it is, whatever the command and the state. -/
def Obligations.CommandsLeaveTheQueue : Prop :=
  ∀ (c : Instr) (s t : State), exec c s = .next t → t.pending = s.pending

/-- The part at reset. The factory table in all four templates, entry by entry (R5), the factory markers (R41), the
lede window 4, every keyword entry unused, an empty duplicate stack, no search, no scan context, and dedupe on at
every line (R84, R85, R88, R98), the threshold 64 (R82), unused routing entries and an empty default set (R99), and at
every port an empty queue, no current delivery, no suspended story and the promotion interval 15 (R107, R117). Every
block is in the pool and every slot FREE, each field of its record empty or absent; the lists and the count of filed
stories are empty and 0; the tick counter, the monotonic counter and the wire clock are 0 and the settled flag clear
(R65, R82). The link is idle, nothing queued, pending, waiting or being sent, and clear-to-send is off (R183, R199). -/
def Obligations.PartStoreAndLinkAtReset : Prop :=
   ((∀ (t : Fin 4) (c : Fin 32), isFunctionCode c.val = true →
      (State.reset.part.templates[t]).letters[c] = none ∧ (State.reset.part.templates[t]).figures[c] = none) ∧
    (∀ t : Fin 4, tableCodes.map (fun c => (State.reset.part.templates[t]).letters[Fin.ofNat 32 c]) =
      [65, 66, 67, 68, 69, 70, 71, 72, 73, 74, 75, 76, 77, 78, 79, 80, 81, 82, 83, 84, 85, 86, 87, 88, 89, 90].map
        fun v => some (.print v)) ∧
    (∀ t : Fin 4, tableCodes.map (fun c => (State.reset.part.templates[t]).figures[Fin.ofNat 32 c]) =
      ([48, 49, 50, 51, 52, 53, 54, 55, 56, 57, 45, 39, 40, 41, 44, 46, 47, 58, 59, 61, 63, 43].map
        fun v => some (.print v)) ++ [some .bell, some .ident, some .nothing, some .nothing]) ∧
    State.reset.part.markers =
      ⟨[86, 86, 86, 86], [88, 88, 88, 88], [66, 75, 66, 75], [82, 83, 82, 83], [86, 68, 86, 68]⟩ ∧
    State.reset.part.lede = 4 ∧ State.reset.part.threshold = 64 ∧ State.reset.part.keywords = Vector.replicate 24 none ∧
    State.reset.part.routes = Vector.replicate 48 none ∧ State.reset.part.defaultSet = Vector.replicate 24 false) ∧
   ((∀ l : Fin 16, State.reset.room.lines[l].settings.dedupe = true) ∧
    (∀ p : Fin 24, State.reset.room.ports[p].queue = [] ∧ State.reset.room.ports[p].promotion = 15 ∧
      State.reset.room.currentOf p = none ∧ State.reset.room.suspendedOf p = none)) ∧
   (State.reset.room.freeCount = 1024 ∧ State.reset.room.pool = List.range 1024 ∧
    (∀ i : Fin 256,
      let x := State.reset.room.stories[i]
      x.state = .free ∧ x.held = false ∧ x.origin = none ∧ x.opened = none ∧ x.filed = none ∧ x.header = none ∧
      x.text = [] ∧ x.textLines = 0 ∧ x.chain = [] ∧ x.cause = none ∧ x.closed = false ∧ x.garbles = 0 ∧
      x.overruns = 0 ∧ x.substitutions = 0 ∧ x.keywords = Vector.replicate 24 false ∧
      x.pendingSet = Vector.replicate 24 false ∧ x.doneSet = Vector.replicate 24 false ∧
      x.missedSet = Vector.replicate 24 false ∧ x.begun = false ∧ x.reason = none ∧ x.noticePending = false ∧
      State.reset.room.scans[i] = none) ∧
    State.reset.room.waitList = Vector.replicate 16 false ∧ State.reset.room.settled = [] ∧
    State.reset.room.filedCount = 0 ∧ State.reset.room.stack = [] ∧ State.reset.room.search = none) ∧
   (State.reset.time.ticks = 0 ∧ State.reset.time.seconds = 0 ∧ State.reset.time.clock = ⟨0, 0⟩ ∧
    State.reset.time.settled = false) ∧
   (State.reset.room.link.rx = .idle ∧ State.reset.room.link.ready = false ∧ State.reset.room.link.replies = [] ∧
    State.reset.room.link.reject = none ∧ State.reset.room.link.notices = [] ∧ State.reset.room.link.records = [] ∧
    State.reset.room.link.waiting = [] ∧ State.reset.room.link.txFrame = none ∧
    State.reset.room.link.resetting = none ∧ State.reset.room.link.clearToSend = false)

/-- The ports, lines and desks at reset, item by item of the reset tables. Every port is OUT, with an empty condition
set and its counters at 0 (R15, R36, R56, R141, R165, R182). A line has the power-on settings of R17, R40, R122 and
R155. Its receiver is OFF with no timing running, its decoder in LETTERS with no return seen, no text line and no
blank line, unshift-on-space off and none staged (R36); its assembler OFF with the factory markers, nothing held, no
story and no timer (R56). Both sides hold template 0's table, none staged, no refresh pending, the sender its reverse
map and the IDENT position 28 (R15). Its sender is OUT at column 0 in case UNKNOWN with the send settings of R122 and
none staged, no pending space, no delivery, no answer pending and no timer (R141), the suspension EMPTY, nothing open
at the far end, no VOID owed, no stop pending (R154), and no exchange (R155). A desk has the settings of R167 and is
OUT, not paused, with no output, nothing to send or in its buffer, no story, the line-start flag clear and no stall
timer (R182). -/
def Obligations.PortsLinesAndDesksAtReset : Prop :=
  (∀ p : Fin 24,
    let x := State.reset.room.ports[p]
    x.inService = false ∧ x.conditions = ⟨false, false, false, false, false⟩ ∧ x.counters = ⟨0, 0, 0, 0, 0, 0⟩) ∧
  (∀ l : Fin 16,
    let x := State.reset.room.lines[l].settings
    x.mode = .receive ∧ x.rate = 1 ∧ x.stop = .oneAndHalf ∧ x.maxLength = 8192 ∧ x.inactivity = 60 ∧
    x.startWait = 1500 ∧ x.idleTime = 90 ∧ x.answerback = [] ∧ x.identifyBefore = false ∧ x.expected = [] ∧
    x.window = 2500 ∧ x.tries = 2) ∧
  (∀ l : Fin 16,
    let x := State.reset.room.lines[l]
    let table : TableSide := ⟨State.reset.part.templates[0], 0, none, false⟩
    x.receiver.state = .off ∧ x.receiver.space = none ∧ x.receiver.mark = none ∧
    x.decoder = ⟨table, .letters, false, false, 0, false, none⟩ ∧
    x.assembler = ⟨.off, [], State.reset.part.markers, false, none, none, none, []⟩ ∧
    x.sender.side = table ∧ x.sender.map = table.copy.reverseMap ∧ x.sender.identPos = some 28 ∧
    x.sender.settings =
      { width := 69, allowance := 200, minFill := 2, fill := .blank, refresh := true, substitution := 63,
        unshift := false } ∧
    x.sender.staged = ⟨none, none, none, none, none, none, none⟩) ∧
  (∀ l : Fin 16,
    let y := State.reset.room.lines[l].sender
    y.machine = .out ∧ y.column = 0 ∧ y.case = .unknown ∧ y.pendingSpaces = 0 ∧ y.current = none ∧
    y.substitutions = 0 ∧ y.answerPending = false ∧ y.startTimer = none ∧ y.idleTimer = none ∧
    y.suspension = .empty ∧ y.farOpen = 0 ∧ y.restartVoid = false ∧ y.stopPending = none ∧
    y.identify = ⟨.none, false, 0, [], none, .none⟩) ∧
  (∀ d : Fin 8,
    let x := State.reset.room.desks[d]
    x.settings =
      { rate := 3, pauseCode := 19, resumeCode := 17, fileCode := 4, cancelCode := 24, rubout := 127, echo := true,
        stallLimit := 60, garble := 42, maxLength := 8192 } ∧
    x.state = .out ∧ x.pause = false ∧ x.output = .none ∧ x.current = none ∧ x.short = [] ∧ x.lineStart = false ∧
    x.buffer = [] ∧ x.composing = none ∧ x.stall = none)

/-- Power-on, the reset pin, and the end of RESET FULL's DONE frame once every reply has left the queue: every block
at its power-on values, the straps as read, the settings too (R199, R201). The levels on the receive pins, which are
inputs, stay (the model's choice, log entry 20); the end of the DONE frame is told with every reply sent (log entry
24). 25 ms, 2,500 ticks, after a whole-part reset the settled flag is set and the part joins the notice subject list
with the kind READY; nothing else changes before the transmitter's turn (R80, R199). The monotonic counter and the
wire clock advance by a second at 100,000 ticks from their last advance; the clock rolls from 86,399 to 0 and the day
count goes on modulo 256; nothing else changes (R80, R81). The tick counter stands at least at the tick each is due
(the model's choice, log entry 3). -/
def Obligations.WholePartResetsAndClocks : Prop :=
  (∀ (first second : Bool) (s : State),
      (∃ t, exec (.powerOn first second) s = .next t ∧ afterWholeReset s t first second) ∧
      (∃ t, exec (.resetPin first second) s = .next t ∧ afterWholeReset s t first second) ∧
      (s.room.link.resetting = some ⟨.full, []⟩ → s.room.link.replies = [] →
        ∃ t, exec (.resetFullComplete first second) s = .next t ∧ afterWholeReset s t first second)) ∧
  ((∀ s : State, s.time.settled = false →
        exec .timingBaseSettled s = .next
          { s with
            time := { s.time with ticks := max s.time.ticks 2500, settled := true }
            room := { s.room with link := { s.room.link with
              notices := if Notice.part ∈ s.room.link.notices then s.room.link.notices
                else s.room.link.notices ++ [Notice.part] } } }.finish) ∧
     (∀ s : State,
        exec .monotonicSecondsAdvance s = .next
          { s with time := { s.time with
            ticks := max s.time.ticks (s.time.secondsFrom + 100000)
            seconds := s.time.seconds + 1
            secondsFrom := s.time.secondsFrom + 100000 } }.finish ∧
        (s.time.clock.seconds < 86399 →
          exec .wireClockAdvance s = .next
            { s with time := { s.time with
              ticks := max s.time.ticks (s.time.clockFrom + 100000)
              clock := ⟨s.time.clock.seconds + 1, s.time.clock.day⟩
              clockFrom := s.time.clockFrom + 100000 } }.finish) ∧
        (s.time.clock.seconds = 86399 →
          exec .wireClockAdvance s = .next
            { s with time := { s.time with
              ticks := max s.time.ticks (s.time.clockFrom + 100000)
              clock := ⟨0, (s.time.clock.day + 1) % 256⟩
              clockFrom := s.time.clockFrom + 100000 } }.finish)))

/-! ## The part's settings -/

/-- CLOCK SET in range gives the clock both values at once and starts its second anew; out of range it is refused BAD
PARAMETER with the clock unchanged (R81). PART SETUP in range writes the values given and keeps the others; with no
threshold given, or with one the free count reaches, nothing else changes. A value out of its range refuses the whole
request (R192). ROUTE SET writes an entry with its pattern folded, marks one unused, or writes the default set, and
changes nothing else; it is refused BAD PARAMETER for an entry above 47, a pattern code that is neither letter nor
'*', or a port above 23 (R100). KEYWORD SET in range writes the entry; its number leaves the keyword set of every
ASSEMBLING story when the text changes or the entry becomes unused, no other keyword set changes, and nothing else
does (R89). KEYWORD SET is refused BAD PARAMETER, nothing changed, for an entry above 23, a text shorter than 3 or
longer than 15 codes, a code that is not a letter, digit or space, a space at an end, two spaces together, or an
action number above 2 (R89). MARKER SET of five markers of 2 to 6 letters, none equal to or the start of another after
folding, writes the set folded; each assembler whose window is empty matches against it at once, the others keep
theirs, and nothing else changes (R41, R42). Five that break those rules are refused BAD PARAMETER. -/
def Obligations.PartRequestsWriteOrRefuse : Prop :=
  ((∀ (tag : Octet) (seconds day : Nat) (s : State), Takes s →
        (seconds ≤ 86399 → day ≤ 255 → exec (.clockSet tag seconds day) s =
          answered { s with time := { s.time with clock := ⟨seconds, day⟩, clockFrom := s.time.ticks } } tag .none) ∧
        (86399 < seconds ∨ 255 < day → exec (.clockSet tag seconds day) s = refused s tag .badParameter)) ∧
     (∀ (tag : Octet) (lede threshold : Option Nat) (s : State), Takes s →
        ((∀ n, lede = some n → n ≤ 15) → (∀ n, threshold = some n → n ≤ 256 ∧ n ≤ s.room.freeCount) →
          exec (.partSetup tag lede threshold) s =
            answered { s with part := { s.part with
              lede := lede.getD s.part.lede, threshold := threshold.getD s.part.threshold } } tag .none) ∧
        ((∃ n, lede = some n ∧ 15 < n) ∨ (∃ n, threshold = some n ∧ 256 < n) →
          exec (.partSetup tag lede threshold) s = refused s tag .badParameter))) ∧
  (∀ (tag : Octet) (s : State), Takes s →
      (∀ (n a b : Nat) (dest : List Nat) (hn : n < 48), (isLetter a ∨ a = 42) → (isLetter b ∨ b = 42) →
        (∀ p ∈ dest, p < 24) → exec (.routeSet tag (.entry n a b dest)) s =
          answered { s with part := { s.part with
            routes := s.part.routes.set n (some ⟨upper a, upper b, setOfList dest⟩) hn } } tag .none) ∧
      (∀ (n : Nat) (hn : n < 48), exec (.routeSet tag (.unused n)) s =
        answered { s with part := { s.part with routes := s.part.routes.set n none hn } } tag .none) ∧
      (∀ dest : List Nat, (∀ p ∈ dest, p < 24) → exec (.routeSet tag (.default dest)) s =
        answered { s with part := { s.part with defaultSet := setOfList dest } } tag .none) ∧
      (∀ (n a b : Nat) (dest : List Nat),
        (47 < n ∨ (isLetter a = false ∧ a ≠ 42) ∨ (isLetter b = false ∧ b ≠ 42) ∨ ∃ p ∈ dest, 23 < p) →
        exec (.routeSet tag (.entry n a b dest)) s = refused s tag .badParameter) ∧
      (∀ n : Nat, 47 < n → exec (.routeSet tag (.unused n)) s = refused s tag .badParameter) ∧
      (∀ dest : List Nat, (∃ p ∈ dest, 23 < p) →
        exec (.routeSet tag (.default dest)) s = refused s tag .badParameter)) ∧
  ((∀ (tag : Octet) (i : Fin 24) (codes : List Nat) (action : Nat) (a : KeywordAction) (s : State), Takes s →
        actionOf action = some a → isKeywordText (codes.map upper) = true →
        (∃ stories : Vector Story 256,
          exec (.keywordSet tag i.val (.text codes action)) s =
            answered { s with
              part := { s.part with keywords := s.part.keywords.set i (some ⟨codes.map upper, a⟩) }
              room := { s.room with stories := stories } } tag .none ∧
          ∀ slot : Fin 256, stories[slot] =
            if s.room.stories[slot].state = .assembling ∧
                (s.part.keywords[i].map fun k => k.text) ≠ some (codes.map upper) then
              { s.room.stories[slot] with keywords := s.room.stories[slot].keywords.set i false }
            else s.room.stories[slot]) ∧
        (∃ stories : Vector Story 256,
          exec (.keywordSet tag i.val .unused) s =
            answered { s with
              part := { s.part with keywords := s.part.keywords.set i none }
              room := { s.room with stories := stories } } tag .none ∧
          ∀ slot : Fin 256, stories[slot] =
            if s.room.stories[slot].state = .assembling then
              { s.room.stories[slot] with keywords := s.room.stories[slot].keywords.set i false }
            else s.room.stories[slot])) ∧
     (∀ (tag : Octet) (n : Nat) (codes : List Nat) (action : Nat) (s : State), Takes s →
        (23 < n → exec (.keywordSet tag n .unused) s = refused s tag .badParameter) ∧
        ((23 < n ∨ codes.length < 3 ∨ 15 < codes.length ∨
            (∃ c ∈ codes, isLetter c = false ∧ isDigit c = false ∧ c ≠ 32) ∨ codes.head? = some 32 ∨
            codes.getLast? = some 32 ∨ (∃ x y, codes = x ++ 32 :: 32 :: y) ∨ 2 < action) →
          exec (.keywordSet tag n (.text codes action)) s = refused s tag .badParameter))) ∧
  (∀ (tag : Octet) (a b c d e : List Nat) (s : State), Takes s →
      let list := [a, b, c, d, e]
      let folded := list.map fun m => m.map upper
      let fits := (∀ m ∈ list, 2 ≤ m.length ∧ m.length ≤ 6 ∧ ∀ x ∈ m, isLetter x = true) ∧
        folded.Pairwise fun x y => ¬ x <+: y ∧ ¬ y <+: x
      let set : MarkerSet := ⟨a.map upper, b.map upper, c.map upper, d.map upper, e.map upper⟩
      (fits → ∃ lines : Vector Line 16,
        exec (.markerSet tag a b c d e) s =
          answered { s with part := { s.part with markers := set }, room := { s.room with lines := lines } } tag .none ∧
        ∀ l : Fin 16, lines[l] =
          if s.room.lines[l].assembler.window = [] then
            { s.room.lines[l] with assembler := { s.room.lines[l].assembler with markers := set } }
          else s.room.lines[l]) ∧
      (¬ fits → exec (.markerSet tag a b c d e) s = refused s tag .badParameter))

/-- Routing looks at the category alone: the lowest-numbered used entry each of whose positions holds '*' or the
category's letter gives the destination set, and with none, and for an UNHEADED story, it is the default set (R101). -/
def Obligations.RoutingTakesFirstMatch : Prop :=
  ∀ (p : Part),
    p.route none = p.defaultSet ∧
    (∀ (h : Header) (a b : Nat) (i : Fin 48) (e : Route), h.category = [a, b] → p.routes[i] = some e →
      (e.first = 42 ∨ e.first = a) → (e.second = 42 ∨ e.second = b) →
      (∀ (j : Fin 48) (f : Route), j < i → p.routes[j] = some f →
        (f.first ≠ 42 ∧ f.first ≠ a) ∨ (f.second ≠ 42 ∧ f.second ≠ b)) →
      p.route (some h) = e.dest) ∧
    (∀ (h : Header) (a b : Nat), h.category = [a, b] →
      (∀ (j : Fin 48) (f : Route), p.routes[j] = some f →
        (f.first ≠ 42 ∧ f.first ≠ a) ∨ (f.second ≠ 42 ∧ f.second ≠ b)) →
      p.route (some h) = p.defaultSet) ∧
    (∀ h g : Header, h.category = g.category → p.route (some h) = p.route (some g))

/-- The reclaim test, when no port waits for store, frees settled stories until the free count stands at the threshold or
above or every settled story is held. The stories freed are the first unheld ones of the settled list, oldest first, and no
more of them than it takes: before each the free count, with the blocks of those freed before it, is below the threshold.
Their blocks are in the pool in that order, and the list keeps the rest as they stood. A story is freed only with the reason
RECLAIMED, and one that is held or not on the settled list keeps its record (R71, R72). -/
def Obligations.ReclaimFreesUntilThreshold : Prop :=
  ∀ (k : Ctx) (r : Room), r.waitList = Vector.replicate 16 false → r.settled.Nodup →
    let t := r.reclaimTest k
    let unheld := r.settled.filter fun slot => !r.stories[slot].held
    let blocks (n : Nat) : List Nat := (unheld.take n).flatMap fun slot => r.stories[slot].chain
    (k.part.threshold ≤ t.freeCount ∨ ∀ slot ∈ t.settled, t.stories[slot].held = true) ∧
    (∃ n ≤ unheld.length,
      t.settled = r.settled.filter (fun slot => !(unheld.take n).contains slot) ∧
      t.pool = r.pool ++ blocks n ∧ t.freeCount = r.freeCount + (blocks n).length ∧
      ∀ m < n, r.freeCount + (blocks m).length < k.part.threshold) ∧
    (∀ slot : Fin 256, slot ∉ r.settled ∨ r.stories[slot].held = true → t.stories[slot] = r.stories[slot]) ∧
    (∀ slot ∈ r.settled, slot ∉ t.settled →
      t.stories[slot].state = .free ∧ t.stories[slot].reason = some .reclaimed) ∧
    (k.part.threshold ≤ r.freeCount → t = r)

/-- TABLE LOAD that passes its checks writes its entries at consecutive codes from the start: one at a function code
or above 31 has no effect, every other position of every template keeps its entry, and the count taken is that of the
entries at codes up to 31. A line out of service is unchanged. On a line in service a side whose refresh source is another
template is unchanged; the decoder's, when the source is the loaded one, takes a fresh copy at once with any staged
unshift value, or is marked within a text line; the sender's takes its staged settings, a fresh copy and its new reverse
map and IDENT position at once, or is marked in SENDING. No other field of any line changes, and nothing else (R6, R7, R8,
R10, R12, R13, R14, R33, R140). TABLE LOAD is refused BAD PARAMETER, nothing changed, for a table above 3, a half above 1,
a start above 31, an empty run or one above 64 entries, a kind above 3, or a PRINT code outside 32–126 (R6). That the
sender's refresh comes at once in the middle of a return sequence sent in READY, STARTING or IDENTIFYING too is the
model's choice (log entry 54). -/
def Obligations.TableLoadWritesOrRefuses : Prop :=
   (∀ (tag : Octet) (table : Fin 4) (half start : Nat) (c : Case) (entries : List RawEntry) (list : List Entry)
      (s : State), Takes s → caseOf half = some c → start ≤ 31 → 1 ≤ entries.length → entries.length ≤ 64 →
      entries.map RawEntry.entry = list.map some →
      ∃ (t : Table) (lines : Vector Line 16),
        exec (.tableLoad tag table.val half start entries) s =
          answered { s with
            part := { s.part with templates := s.part.templates.set table t }
            room := { s.room with lines := lines } } tag (.entriesTaken (min entries.length (32 - start))) ∧
        (∀ code : Fin 32, (t.half c)[code] =
          if isFunctionCode code.val = false ∧ start ≤ code.val then
            (match list[code.val - start]? with
              | some e => some e
              | none => (s.part.templates[table].half c)[code])
          else (s.part.templates[table].half c)[code]) ∧
        (∀ d : Case, d ≠ c → t.half d = s.part.templates[table].half d) ∧
        (∀ l : Fin 16, s.room.ports[linePort l].inService = false → lines[l] = s.room.lines[l]) ∧
        (∀ l : Fin 16, s.room.ports[linePort l].inService = true →
          let d := s.room.lines[l].decoder
          let x := s.room.lines[l].sender
          lines[l] = { s.room.lines[l] with
            decoder :=
              if d.side.staged.getD d.side.inForce ≠ table then d
              else if d.inLine then { d with side := { d.side with refresh := true } }
              else { d with
                side := ⟨t, table, none, false⟩, unshift := d.stagedUnshift.getD d.unshift, stagedUnshift := none }
            sender :=
              if x.side.staged.getD x.side.inForce ≠ table then x
              else if x.machine = .sending then { x with side := { x.side with refresh := true } }
              else { x with
                settings := x.settings.apply x.staged, staged := StagedSend.none
                side := ⟨t, table, none, false⟩, map := t.reverseMap, identPos := t.identPosition } })) ∧
   (∀ (tag : Octet) (table half start : Nat) (entries : List RawEntry) (s : State), Takes s →
      (3 < table ∨ 1 < half ∨ 31 < start ∨ entries = [] ∨ 64 < entries.length ∨ (∃ e ∈ entries, 3 < e.kind) ∨
        ∃ e ∈ entries, e.kind = 0 ∧ (e.code < 32 ∨ 126 < e.code)) →
      exec (.tableLoad tag table half start entries) s = refused s tag .badParameter)

/-- The encoder's look-up of a value in a reverse map, by the value folded to upper case (R11): a position in one case only is
the result; of two, the one in the send case, and the LETTERS one in UNKNOWN; with none the value is unmapped. A copy a
sender takes brings the map of R10 and the IDENT position of R12: the position of office 7 or 33–126 in a case is the lowest
table code, no function code, whose entry there carries it, no other value has one, and the IDENT position is the lowest
FIGURES code whose entry is IDENT. -/
def Obligations.ReverseMapAndLookUp : Prop :=
  (∀ (m : ReverseMap) (case : SendCase) (v : Nat),
    let a := m.letters.getD (if 97 ≤ v ∧ v ≤ 122 then v - 32 else v) none
    let b := m.figures.getD (if 97 ≤ v ∧ v ≤ 122 then v - 32 else v) none
    (∀ p, a = some p → b = none → m.find case v = some (.letters, p)) ∧
    (∀ q, a = none → b = some q → m.find case v = some (.figures, q)) ∧
    (∀ p q, a = some p → b = some q → m.find .letters v = some (.letters, p) ∧
      m.find .figures v = some (.figures, q) ∧ m.find .unknown v = some (.letters, p)) ∧
    (a = none → b = none → m.find case v = none)) ∧
  (∀ (y : Sender) (templates : Vector Table 4),
    let t := templates[y.side.source]
    let z := y.takeCopy templates
    let carries (h : Half) (v : Nat) (c : Fin 32) : Prop := isFunctionCode c.val = false ∧
      ((v = 7 ∧ h[c] = some .bell) ∨ (33 ≤ v ∧ v ≤ 126 ∧ h[c] = some (.print v)))
    let lowest (h : Half) (positions : List (Option Nat)) : Prop := ∀ v : Nat,
      ((∀ c : Fin 32, ¬ carries h v c) → positions.getD v none = none) ∧
      ∀ c : Fin 32, carries h v c → (∀ d : Fin 32, d < c → ¬ carries h v d) → positions.getD v none = some c.val
    z.side.copy = t ∧ lowest t.letters z.map.letters ∧ lowest t.figures z.map.figures ∧
    ((∀ c : Fin 32, isFunctionCode c.val = true ∨ t.figures[c] ≠ some .ident) → z.identPos = none) ∧
    ∀ c : Fin 32, isFunctionCode c.val = false → t.figures[c] = some .ident →
      (∀ d : Fin 32, d < c → isFunctionCode d.val = true ∨ t.figures[d] ≠ some .ident) → z.identPos = some c.val)

/-! ## Ports: setup, start, stop and identify -/

/-- The range of every field of a PORT SETUP, by its number in R190 (R9, R17, R40, R84, R107, R122, R155, R167). The
checks of PORT SETUP in their order, nothing changed by a refusal: BAD PARAMETER for a port above 23, a field of the
other kind of port or of none, a field given twice, a value out of its range, or control codes of a desk that clash or
are 10 or 13; WRONG STATE for the mode, rate code or stop length of a line in service or the rate of a desk in service
(R191). A list of no fields is answered DONE and changes nothing. A PORT SETUP of one field in range writes that
setting alone: on a line the rate code and stop length out of service, and dedupe, own answerback,
identify-before-send, expected answerback and tries in or out of service; on a desk the rate out of service and any
control code, echo or garble substitute that leaves the control codes apart (R17, R84, R122, R139, R155, R167). A send
setting that is staged: on a line out of service the value is in force at once and no staged value of the field
remains; on a line that is SENDING a value that differs from the one in force is staged in place of any older one, and
a value equal to it removes the staged value. Nothing else changes (R139, R140). -/
def Obligations.PortSetupChecksAndWrites : Prop :=
  (∀ (n : Nat) (t : List Nat),
      (∀ f ∈ [0, 2], settingValid ⟨f, n, t⟩ = true ↔ n < 3) ∧
      (settingValid ⟨1, n, t⟩ = true ↔ n < 5) ∧
      (∀ f ∈ [3, 7, 11, 12, 17, 28], settingValid ⟨f, n, t⟩ = true ↔ n < 2) ∧
      (∀ f ∈ [4, 22], settingValid ⟨f, n, t⟩ = true ↔ n < 4) ∧
      (settingValid ⟨5, n, t⟩ = true ↔ 256 ≤ n ∧ n ≤ 16384) ∧
      (settingValid ⟨6, n, t⟩ = true ↔ 5 ≤ n ∧ n ≤ 600) ∧
      (settingValid ⟨8, n, t⟩ = true ↔ 20 ≤ n ∧ n ≤ 96) ∧
      (settingValid ⟨9, n, t⟩ = true ↔ n ≤ 2000) ∧
      (settingValid ⟨10, n, t⟩ = true ↔ n ≤ 7) ∧
      (∀ f ∈ [13, 30], settingValid ⟨f, n, t⟩ = true ↔ 32 ≤ n ∧ n ≤ 126) ∧
      (settingValid ⟨14, n, t⟩ = true ↔ n ≤ 5000) ∧
      (settingValid ⟨15, n, t⟩ = true ↔ 10 ≤ n ∧ n ≤ 600) ∧
      (∀ f ∈ [16, 18], settingValid ⟨f, n, t⟩ = true ↔ t.length ≤ 20 ∧ ∀ c ∈ t, 32 ≤ c ∧ c ≤ 126) ∧
      (settingValid ⟨19, n, t⟩ = true ↔ 500 ≤ n ∧ n ≤ 5000) ∧
      (settingValid ⟨20, n, t⟩ = true ↔ 1 ≤ n ∧ n ≤ 3) ∧
      (settingValid ⟨21, n, t⟩ = true ↔ n ≤ 60) ∧
      (∀ f ∈ [23, 24, 25, 26, 27], settingValid ⟨f, n, t⟩ = true ↔ n ≤ 31 ∨ n = 127) ∧
      (settingValid ⟨29, n, t⟩ = true ↔ 5 ≤ n ∧ n ≤ 300) ∧
      (∀ f : Nat, 30 < f → settingValid ⟨f, n, t⟩ = false)) ∧
  (∀ (tag : Octet) (port : Nat) (list : List Setting) (s : State), Takes s →
      (23 < port → exec (.portSetup tag port list) s = refused s tag .badParameter) ∧
      (port < 16 → ((∃ x ∈ list, 21 < x.field ∨ settingValid x = false) ∨ ¬ (list.map fun x => x.field).Nodup) →
        exec (.portSetup tag port list) s = refused s tag .badParameter) ∧
      (16 ≤ port → port < 24 →
        ((∃ x ∈ list, (x.field ≠ 5 ∧ x.field < 21) ∨ settingValid x = false) ∨ ¬ (list.map fun x => x.field).Nodup) →
        exec (.portSetup tag port list) s = refused s tag .badParameter) ∧
      (∀ d : Fin 8, port = 16 + d.val →
        (¬ (list.foldl DeskSettings.write s.room.desks[d].settings).codes.Nodup ∨
          10 ∈ (list.foldl DeskSettings.write s.room.desks[d].settings).codes ∨
          13 ∈ (list.foldl DeskSettings.write s.room.desks[d].settings).codes) →
        exec (.portSetup tag port list) s = refused s tag .badParameter) ∧
      (∀ p : Fin 24, port = p.val → p.val < 16 → s.room.ports[p].inService = true →
        (∀ x ∈ list, x.field ≤ 21 ∧ settingValid x = true) → (list.map fun x => x.field).Nodup →
        (∃ x ∈ list, x.field ≤ 2) → exec (.portSetup tag port list) s = refused s tag .wrongState) ∧
      (∀ d : Fin 8, port = 16 + d.val →
        let codes := (list.foldl DeskSettings.write s.room.desks[d].settings).codes
        codes.Nodup → 10 ∉ codes → 13 ∉ codes →
        (list = [] → exec (.portSetup tag port list) s = answered s tag .none) ∧
        (s.room.ports[deskPort d].inService = true →
          (∀ x ∈ list, (x.field = 5 ∨ 21 ≤ x.field) ∧ settingValid x = true) → (list.map fun x => x.field).Nodup →
          (∃ x ∈ list, x.field = 22) → exec (.portSetup tag port list) s = refused s tag .wrongState)) ∧
      (port < 16 → exec (.portSetup tag port []) s = answered s tag .none)) ∧
  (∀ (tag : Octet) (n : Nat) (text : List Nat) (s : State), Takes s →
      (∀ l : Fin 16,
        let put (f : LineSettings → LineSettings) : State := { s with room := { s.room with
          lines := s.room.lines.set l { s.room.lines[l] with settings := f s.room.lines[l].settings } } }
        (s.room.ports[linePort l].inService = false → ∀ h : n < 5, exec (.portSetup tag l.val [⟨1, n, text⟩]) s =
          answered (put fun x => { x with rate := ⟨n, h⟩ }) tag .none) ∧
        (s.room.ports[linePort l].inService = false → ∀ y : StopLength, stopLengthOf n = some y →
          exec (.portSetup tag l.val [⟨2, n, text⟩]) s = answered (put fun x => { x with stop := y }) tag .none) ∧
        (n < 2 → exec (.portSetup tag l.val [⟨7, n, text⟩]) s =
          answered (put fun x => { x with dedupe := n == 1 }) tag .none) ∧
        (text.length ≤ 20 → (∀ c ∈ text, 32 ≤ c ∧ c ≤ 126) → exec (.portSetup tag l.val [⟨16, n, text⟩]) s =
          answered (put fun x => { x with answerback := text }) tag .none) ∧
        (n < 2 → exec (.portSetup tag l.val [⟨17, n, text⟩]) s =
          answered (put fun x => { x with identifyBefore := n == 1 }) tag .none) ∧
        (text.length ≤ 20 → (∀ c ∈ text, 32 ≤ c ∧ c ≤ 126) → exec (.portSetup tag l.val [⟨18, n, text⟩]) s =
          answered (put fun x => { x with expected := text }) tag .none) ∧
        (1 ≤ n → n ≤ 3 → exec (.portSetup tag l.val [⟨20, n, text⟩]) s =
          answered (put fun x => { x with tries := n }) tag .none)) ∧
      (∀ d : Fin 8,
        let put (y : DeskSettings) : State := { s with room := { s.room with
          desks := s.room.desks.set d { s.room.desks[d] with settings := y } } }
        let old := s.room.desks[d].settings
        let apart (y : DeskSettings) : Prop := y.codes.Nodup ∧ 10 ∉ y.codes ∧ 13 ∉ y.codes
        (s.room.ports[deskPort d].inService = false → apart old → ∀ h : n < 4,
          exec (.portSetup tag (16 + d.val) [⟨22, n, text⟩]) s = answered (put { old with rate := ⟨n, h⟩ }) tag .none) ∧
        ((n ≤ 31 ∨ n = 127) →
          (apart { old with pauseCode := n } → exec (.portSetup tag (16 + d.val) [⟨23, n, text⟩]) s =
            answered (put { old with pauseCode := n }) tag .none) ∧
          (apart { old with resumeCode := n } → exec (.portSetup tag (16 + d.val) [⟨24, n, text⟩]) s =
            answered (put { old with resumeCode := n }) tag .none) ∧
          (apart { old with fileCode := n } → exec (.portSetup tag (16 + d.val) [⟨25, n, text⟩]) s =
            answered (put { old with fileCode := n }) tag .none) ∧
          (apart { old with cancelCode := n } → exec (.portSetup tag (16 + d.val) [⟨26, n, text⟩]) s =
            answered (put { old with cancelCode := n }) tag .none) ∧
          (apart { old with rubout := n } → exec (.portSetup tag (16 + d.val) [⟨27, n, text⟩]) s =
            answered (put { old with rubout := n }) tag .none)) ∧
        (apart old → n < 2 → exec (.portSetup tag (16 + d.val) [⟨28, n, text⟩]) s =
          answered (put { old with echo := n == 1 }) tag .none) ∧
        (apart old → 32 ≤ n → n ≤ 126 → exec (.portSetup tag (16 + d.val) [⟨30, n, text⟩]) s =
          answered (put { old with garble := n }) tag .none))) ∧
  (∀ (tag : Octet) (l : Fin 16) (n : Nat) (s : State), Takes s →
      let x := s.room.lines[l].sender
      let put (y : Sender) : State := { s with room := { s.room with
        lines := s.room.lines.set l { s.room.lines[l] with sender := y } } }
      (s.room.ports[linePort l].inService = false →
        (20 ≤ n → n ≤ 96 → exec (.portSetup tag l.val [⟨8, n, []⟩]) s =
          answered (put { x with settings := { x.settings with width := n }, staged := { x.staged with width := none } })
            tag .none) ∧
        (n ≤ 2000 → exec (.portSetup tag l.val [⟨9, n, []⟩]) s =
          answered (put
            { x with settings := { x.settings with allowance := n }, staged := { x.staged with allowance := none } })
            tag .none) ∧
        (n ≤ 7 → exec (.portSetup tag l.val [⟨10, n, []⟩]) s =
          answered (put
            { x with settings := { x.settings with minFill := n }, staged := { x.staged with minFill := none } })
            tag .none) ∧
        (32 ≤ n → n ≤ 126 → exec (.portSetup tag l.val [⟨13, n, []⟩]) s =
          answered (put
            { x with
              settings := { x.settings with substitution := n }, staged := { x.staged with substitution := none } })
            tag .none)) ∧
      (s.room.ports[linePort l].inService = true → x.machine = .sending →
        (20 ≤ n → n ≤ 96 → exec (.portSetup tag l.val [⟨8, n, []⟩]) s =
          answered (put { x with staged := { x.staged with width := if n = x.settings.width then none else some n } })
            tag .none) ∧
        (n ≤ 2000 → exec (.portSetup tag l.val [⟨9, n, []⟩]) s =
          answered (put
            { x with staged := { x.staged with allowance := if n = x.settings.allowance then none else some n } })
            tag .none) ∧
        (n ≤ 7 → exec (.portSetup tag l.val [⟨10, n, []⟩]) s =
          answered (put
            { x with staged := { x.staged with minFill := if n = x.settings.minFill then none else some n } })
            tag .none) ∧
        (32 ≤ n → n ≤ 126 → exec (.portSetup tag l.val [⟨13, n, []⟩]) s =
          answered (put
            { x with staged := { x.staged with
              substitution := if n = x.settings.substitution then none else some n } })
            tag .none)))

/-- A PORT SETUP of one field: the mode of a line out of service, whose queue empties when it becomes RECEIVE, each
story there missed; unshift-on-space and the table number, on both sides; the fill character and case refresh; the
maximum story length, which the limits of the line's stories within it follow; a timer's setting that the running timer
has not reached, an inactivity time that a hunt has, and a desk's stall limit and maximum length; the promotion
interval, one due entry promoted at once. A staged field is in force at once out of service; in service it is staged
within a text line or SENDING and taken up at once outside. Nothing else changes. That a changed inactivity time is
measured from the last start of the timer, in the clauses of field 6, is the model's choice (log entry 49): R40 speaks
of the last activity. That a sender in the middle of a return sequence sent in READY, STARTING or IDENTIFYING takes a
staged field up at once is its choice too (log entry 54) (R9, R13, R14, R17, R33, R40, R54, R61, R103, R107, R116, R119,
R120, R122, R139, R140, R160, R167, R191). -/
def Obligations.PortSetupOtherFields : Prop :=
  (∀ (tag : Octet) (l : Fin 16) (n : Nat) (s : State), Takes s →
    let x := s.room.lines[l]
    let d := x.decoder
    let y := x.sender
    let p := s.room.ports[linePort l]
    let set (field : Nat) := exec (.portSetup tag l.val [⟨field, n, []⟩]) s
    let put (z : Line) : State := { s with room := { s.room with lines := s.room.lines.set l z } }
    let kept (f : LineSettings → LineSettings) : Answer := answered (put { x with settings := f x.settings }) tag .none
    let staged {α : Type} [DecidableEq α] (old new : α) : Option α := if new = old then none else some new
    let safe : Prop := d.side.refresh = false ∧ d.side.staged = none ∧ d.stagedUnshift = none ∧
      y.side.refresh = false ∧ y.side.staged = none ∧ y.staged = StagedSend.none
    let fill : FillChar := if n = 1 then .letters else .blank
    (p.inService = false →
      (∀ m : Mode, modeOf n = some m → m ≠ .receive ∨ p.queue = [] →
        set 0 = kept fun z => { z with mode := m }) ∧
      (∀ (e : QEntry) (q : Fin 24), n = 0 → p.queue = [e] → s.room.stories[e.slot].pendingSet[q] = true →
        q ≠ linePort l → set 0 = answered { s with room := { s.room with
          lines := s.room.lines.set l { x with settings := { x.settings with mode := .receive } }
          ports := s.room.ports.set (linePort l) { p with queue := [] }
          stories := s.room.stories.set e.slot { s.room.stories[e.slot] with
            pendingSet := s.room.stories[e.slot].pendingSet.set (linePort l) false
            doneSet := s.room.stories[e.slot].doneSet.set (linePort l) false
            missedSet := s.room.stories[e.slot].missedSet.set (linePort l) true
            noticePending := true }
          link := { s.room.link with
            notices := postStoryList e.slot StoryKinds.ofMissed s.room.link.notices } } } tag .none) ∧
      (n < 2 → set 3 = answered (put { x with
          decoder := { d with unshift := n == 1, stagedUnshift := none }
          sender := { y with
            settings := { y.settings with unshift := n == 1 }, staged := { y.staged with unshift := none } } })
          tag .none) ∧
      (∀ h : n < 4, set 4 = answered (put { x with
          decoder := { d with side := { d.side with inForce := ⟨n, h⟩, staged := none } }
          sender := { y with side := { y.side with inForce := ⟨n, h⟩, staged := none } } }) tag .none) ∧
      (n < 2 → set 11 = answered (put { x with sender := { y with
          settings := { y.settings with fill := fill }, staged := { y.staged with fill := none } } }) tag .none) ∧
      (n < 2 → set 12 = answered (put { x with sender := { y with
          settings := { y.settings with refresh := n == 1 }, staged := { y.staged with refresh := none } } })
          tag .none)) ∧
    (p.inService = true → d.inLine = true → y.machine = .sending →
      (n < 2 → set 3 = answered (put { x with
          decoder := { d with stagedUnshift := staged d.unshift (n == 1) }
          sender := { y with staged := { y.staged with unshift := staged y.settings.unshift (n == 1) } } })
          tag .none) ∧
      (∀ h : n < 4,
        let side (z : TableSide) : TableSide := if z.staged.getD z.inForce = ⟨n, h⟩ then z
          else { z with staged := staged z.inForce ⟨n, h⟩, refresh := true }
        set 4 = answered (put { x with
          decoder := { d with side := side d.side }, sender := { y with side := side y.side } }) tag .none) ∧
      (n < 2 → set 11 = answered (put { x with sender := { y with
          staged := { y.staged with fill := staged y.settings.fill fill } } }) tag .none) ∧
      (n < 2 → set 12 = answered (put { x with sender := { y with
          staged := { y.staged with refresh := staged y.settings.refresh (n == 1) } } }) tag .none)) ∧
    (p.inService = true → d.inLine = false → y.machine ≠ .sending → safe →
      (n < 2 → set 3 = answered (put { x with
          decoder := { d with unshift := n == 1 }
          sender := { y with settings := { y.settings with unshift := n == 1 } } }) tag .none) ∧
      (∀ h : n < 4, d.side.inForce ≠ ⟨n, h⟩ → y.side.inForce ≠ ⟨n, h⟩ →
        let t := s.part.templates[n]
        set 4 = answered (put { x with
          decoder := { d with side := ⟨t, ⟨n, h⟩, none, false⟩ }
          sender := { y with
            side := ⟨t, ⟨n, h⟩, none, false⟩, map := t.reverseMap, identPos := t.identPosition } }) tag .none) ∧
      (n < 2 → set 11 = answered (put { x with sender := { y with settings := { y.settings with fill := fill } } })
        tag .none) ∧
      (n < 2 → set 12 = answered (put { x with sender := { y with
        settings := { y.settings with refresh := n == 1 } } }) tag .none)) ∧
    (256 ≤ n → n ≤ 16384 → x.assembler.markers = s.part.markers → y.identify.phase ≠ .awaiting →
      let long (slot : Option (Fin 256)) : Prop := ∃ i, slot = some i ∧
        n < s.room.stories[i].text.length + (if slot = x.assembler.current then x.assembler.fifo.length else 0)
      (x.assembler.current = none → x.assembler.suspended = none →
        set 5 = kept fun z => { z with maxLength := n }) ∧
      (∀ i : Fin 256, x.assembler.current = some i → ¬ long (some i) → x.assembler.suspended = none →
        set 5 = answered { s with room := { s.room with
          lines := s.room.lines.set l { x with settings := { x.settings with maxLength := n } }
          stories := s.room.stories.set i { s.room.stories[i] with limit := n } } } tag .none) ∧
      (∀ i : Fin 256, x.assembler.suspended = some i → s.room.stories[i].text.length ≤ n →
        x.assembler.current = none → set 5 = answered { s with room := { s.room with
          lines := s.room.lines.set l { x with settings := { x.settings with maxLength := n } }
          stories := s.room.stories.set i { s.room.stories[i] with limit := n } } } tag .none) ∧
      (∀ i : Fin 256, x.assembler.current = some i → long (some i) →
        ∃ u : State, set 5 = .next u.finish ∧ u.room.lines[l].settings.maxLength = n ∧
          u.room.lines[l].assembler.current = none ∧ u.room.stories[i].cause = some .overlong ∧
          u.room.stories[i].state ≠ .assembling)) ∧
    (5 ≤ n → n ≤ 600 →
      ((∀ t, x.assembler.timer = some t → s.time.ticks < t + n * 100000) →
        set 6 = kept fun z => { z with inactivity := n }) ∧
      (∀ t, x.assembler.timer = some t → t + n * 100000 ≤ s.time.ticks → x.assembler.machine = .hunt →
        x.assembler.window = [] → x.assembler.suspended = none → y.identify.phase ≠ .awaiting →
        set 6 = answered (put { x with
          settings := { x.settings with inactivity := n }
          assembler := { x.assembler with skip := false, timer := none, markers := s.part.markers } }) tag .none)) ∧
    (n ≤ 5000 → (y.machine = .starting → ∀ t, y.startTimer = some t → s.time.ticks < t + n * 100) →
      set 14 = kept fun z => { z with startWait := n }) ∧
    (10 ≤ n → n ≤ 600 → (y.machine = .ready → ∀ t, y.idleTimer = some t → s.time.ticks < t + n * 100000) →
      set 15 = kept fun z => { z with idleTime := n }) ∧
    (500 ≤ n → n ≤ 5000 →
      (y.identify.phase = .collecting → ∀ t, y.identify.timer = some t → s.time.ticks < t + n * 100) →
      set 19 = kept fun z => { z with window := n })) ∧
  (∀ (tag : Octet) (p : Fin 24) (n : Nat) (s : State), Takes s → n ≤ 60 →
    let old := s.room.ports[p]
    let put (q : List QEntry) : Answer := answered { s with room := { s.room with
      ports := s.room.ports.set p { old with promotion := n, queue := q } } } tag .none
    (∀ l : Fin 16, p = linePort l → s.room.lines[l].sender.machine = .out) →
    (∀ d : Fin 8, p = deskPort d → s.room.desks[d].state = .out ∧ s.room.desks[d].settings.codesAgree = true) →
    let due (e : QEntry) : Prop :=
      n ≠ 0 ∧ (e.cls = .ordinary ∨ e.cls = .deferred) ∧ 60 * n ≤ (s.time.seconds - e.at_).toNat
    ((∀ e ∈ old.queue, ¬ due e) → exec (.portSetup tag p.val [⟨21, n, []⟩]) s = put old.queue) ∧
    (∀ (before after : List QEntry) (e : QEntry), old.queue = before ++ e :: after → due e →
      (∀ y ∈ before ++ after, ¬ due y) → exec (.portSetup tag p.val [⟨21, n, []⟩]) s =
        put (queueTail ⟨e.slot, if e.cls = .deferred then .ordinary else .urgent, s.time.seconds⟩
          (old.queue.filter fun y => y.slot != e.slot)))) ∧
  (∀ (tag : Octet) (d : Fin 8) (n : Nat) (s : State), Takes s →
    let x := s.room.desks[d]
    let put (y : DeskSettings) : Answer := answered { s with room := { s.room with
      desks := s.room.desks.set d { x with settings := y } } } tag .none
    x.settings.codesAgree = true →
    (256 ≤ n → n ≤ 16384 →
      exec (.portSetup tag (16 + d.val) [⟨5, n, []⟩]) s = put { x.settings with maxLength := n }) ∧
    (5 ≤ n → n ≤ 300 → (∀ t, x.stall = some t → s.time.ticks < t + n * 100000) →
      exec (.portSetup tag (16 + d.val) [⟨29, n, []⟩]) s = put { x.settings with stallLimit := n }))

/-- PORT START of a line that is out of service and whose queue holds no eligible entry: it enters service with its
counters at 0, its queue kept and UNIDENTIFIED gone; the receive side starts by its mode in WAITING, LETTERS and HUNT,
or stays OFF on a SEND line; the send side starts QUIET at column 0, or stays OUT on a RECEIVE line, its case UNKNOWN;
both sides take fresh copies. No other line, port, desk or story changes (R2, R15, R36, R38, R141, R193). PORT START of a
desk that is out of service and whose queue holds no eligible entry: IDLE, no pause, empty buffer and output, counters
at 0, the queue kept. No other port, desk, line or story changes (R182, R193). -/
def Obligations.PortStartEntersService : Prop :=
   (∀ (tag : Octet) (l : Fin 16) (s : State), Takes s → s.room.ports[linePort l].inService = false →
      (∀ e ∈ s.room.ports[linePort l].queue, s.room.stories[e.slot].held = true) →
      ∃ u : State, exec (.portStart tag l.val) s = .next u.finish ∧
        let x := u.room.lines[l]
        let old := s.room.lines[l]
        let p := u.room.ports[linePort l]
        u.pending = s.pending ∧ u.time = s.time ∧ u.part = s.part ∧
        u.room.link.replies = s.room.link.replies ++ [doneReply tag .none] ∧
        p.inService = true ∧ p.counters = ⟨0, 0, 0, 0, 0, 0⟩ ∧ p.queue = s.room.ports[linePort l].queue ∧
        p.conditions = { s.room.ports[linePort l].conditions with unidentified := false } ∧
        x.settings = old.settings ∧
        (old.settings.mode = .send → x.receiver.state = .off ∧ x.assembler.machine = .off ∧ x.assembler.timer = none) ∧
        (old.settings.mode ≠ .send → x.receiver.state = .waiting ∧ x.assembler.machine = .hunt ∧
          x.assembler.timer = some s.time.ticks) ∧
        x.assembler.window = [] ∧ x.assembler.skip = false ∧ x.assembler.current = none ∧ x.assembler.suspended = none ∧
        x.decoder.case = .letters ∧ x.decoder.inLine = false ∧ x.decoder.blankLines = 0 ∧
        x.decoder.side =
          ⟨s.part.templates[old.decoder.side.source], old.decoder.side.source, none, false⟩ ∧
        x.sender.side = ⟨s.part.templates[old.sender.side.source], old.sender.side.source, none, false⟩ ∧
        x.sender.settings = old.sender.settings.apply old.sender.staged ∧ x.sender.staged = StagedSend.none ∧
        x.sender.farOpen = 0 ∧ x.sender.suspension = .empty ∧ x.sender.restartVoid = false ∧
        (old.settings.mode = .receive → x.sender.machine = .out) ∧
        x.sender.case = .unknown ∧
        (old.settings.mode ≠ .receive → x.sender.machine = .quiet ∧ x.sender.column = 0 ∧
          x.sender.current = none ∧ x.sender.answerPending = false) ∧
        (∀ m : Fin 16, m ≠ l → u.room.lines[m] = s.room.lines[m]) ∧
        (∀ q : Fin 24, q ≠ linePort l → u.room.ports[q] = s.room.ports[q]) ∧
        u.room.desks = s.room.desks ∧ u.room.stories = s.room.stories ∧ u.room.pool = s.room.pool) ∧
   (∀ (tag : Octet) (d : Fin 8) (s : State), Takes s → s.room.ports[deskPort d].inService = false →
      (∀ e ∈ s.room.ports[deskPort d].queue, s.room.stories[e.slot].held = true) →
      exec (.portStart tag (16 + d.val)) s =
        answered { s with room := { s.room with
          ports := s.room.ports.set (deskPort d)
            { s.room.ports[deskPort d] with inService := true, counters := ⟨0, 0, 0, 0, 0, 0⟩ }
          desks := s.room.desks.set d
            { settings := s.room.desks[d].settings, state := .idle, pause := false, output := .none, current := none,
              short := [], lineStart := false, buffer := [], composing := none, stall := none,
              txChar := s.room.desks[d].txChar, clearing := false } } } tag .none)

/-- What PORT START and PORT STOP refuse, nothing changed: BAD PARAMETER for a port above 23; PORT START WRONG STATE
for a port in service and NOT READY for a line whose stop is pending; PORT STOP of either kind WRONG STATE for a port
that is OUT (R193, R194). IDENTIFY's checks in their order, each refusal changing nothing: BAD PARAMETER for a port
above 15, WRONG STATE out of service or in a mode other than BOTH, NOT READY with a stop pending, WRONG STATE when
BROKEN, BUSY with an exchange in progress, BAD SETUP with no IDENT position or an empty expected answerback (R156). -/
def Obligations.PortRequestRefusals : Prop :=
   (∀ (tag : Octet) (s : State), Takes s →
      (∀ port : Nat, 23 < port →
        exec (.portStart tag port) s = refused s tag .badParameter ∧
        exec (.portStopDrain tag port) s = refused s tag .badParameter ∧
        exec (.portStopCut tag port) s = refused s tag .badParameter) ∧
      (∀ l : Fin 16, s.room.ports[linePort l].inService = true →
        (s.room.lines[l].sender.stopPending = none → exec (.portStart tag l.val) s = refused s tag .wrongState) ∧
        (s.room.lines[l].sender.stopPending ≠ none → exec (.portStart tag l.val) s = refused s tag .notReady)) ∧
      (∀ d : Fin 8, s.room.ports[deskPort d].inService = true →
        exec (.portStart tag (16 + d.val)) s = refused s tag .wrongState) ∧
      (∀ p : Fin 24, s.room.ports[p].inService = false →
        exec (.portStopDrain tag p.val) s = refused s tag .wrongState ∧
        exec (.portStopCut tag p.val) s = refused s tag .wrongState)) ∧
   (∀ (tag : Octet) (s : State), Takes s →
      (∀ port : Nat, 15 < port → exec (.identify tag port) s = refused s tag .badParameter) ∧
      ∀ l : Fin 16,
        let x := s.room.lines[l]
        let p := s.room.ports[linePort l]
        (p.inService = false ∨ x.settings.mode ≠ .both → exec (.identify tag l.val) s = refused s tag .wrongState) ∧
        (p.inService = true → x.settings.mode = .both →
          (x.sender.stopPending ≠ none → exec (.identify tag l.val) s = refused s tag .notReady) ∧
          (x.sender.stopPending = none →
            (p.conditions.broken = true → exec (.identify tag l.val) s = refused s tag .wrongState) ∧
            (p.conditions.broken = false →
              (x.sender.identify.phase ≠ .none → exec (.identify tag l.val) s = refused s tag .busy) ∧
              (x.sender.identify.phase = .none → x.sender.identPos = none ∨ x.settings.expected = [] →
                exec (.identify tag l.val) s = refused s tag .badSetup)))))

/-- PORT STOP of a line with no exchange: the receive side goes OFF at once. A sender in SENDING stays in service with
the stop pending, DRAIN or CUT, a pending CUT staying CUT; one that sends nothing goes OUT at once, no longer in
service, its far-open count 0. BROKEN and DIRECTORY FULL leave the condition set. With no story and no cells in the
assembler no other line, no other port, no desk and no story changes. Cells held are released first, to the current
story in STORY and to the stray count in HUNT, those of a FIFO that waits for the store are overruns, and the current
and then the suspended story are closed TRUNCATED, each filed whole, told for ports that are OUT and stories that are
no duplicates, with no keyword entry used (R25, R35, R55, R56, R57, R151, R152, R194). PORT STOP of a desk with no
composing story: OUT at once, pause flag clear, STALLED gone, and a current delivery back in the queue at the head of
its class, queued now; nothing else changes (R109, R182, R194). PORT STOP of a line with an exchange, its assembler
holding nothing: the exchange's phase is NONE, and one that IDENTIFY asked for is replied CUT, behind the stop's own
DONE, with the tries begun and the cells collected, unless its outcome was fixed. A sender in IDENTIFYING with no
character in progress goes OUT at once at column 0 with nothing open at the far end, its story back at the head of its
class, and sends a return first at another column; one within a closing return ends that return and then stops, and one
within another character ends it, and then does the same. A PENDING exchange leaves a sender in SENDING at its work
with the stop pending (R109, R151, R152, R155, R163, R187, R188, R194). That the sender is SENDING from the cut to that
end, and that a PENDING exchange reports 0 tries and no cells, is the model's inference (log entry 12), as is that the
DONE has its place first (log entry 7); the tick is its choice (log entry 3). -/
def Obligations.PortStop : Prop :=
  (∀ (tag : Octet) (l : Fin 16) (kind : StopKind) (s : State), Takes s → s.room.ports[linePort l].inService = true →
      s.room.lines[l].assembler.current = none → s.room.lines[l].assembler.suspended = none →
      s.room.lines[l].assembler.window = [] → s.room.lines[l].sender.identify.phase = .none →
      s.room.lines[l].sender.machine ≠ .identifying →
      ∃ u : State,
        exec (match kind with
          | .drain => .portStopDrain tag l.val
          | .cut => .portStopCut tag l.val) s = .next u.finish ∧
        u.pending = s.pending ∧ u.time = s.time ∧ u.part = s.part ∧
        u.room.link.replies = s.room.link.replies ++ [doneReply tag .none] ∧
        u.room.lines[l].receiver.state = .off ∧ u.room.lines[l].assembler.machine = .off ∧
        u.room.lines[l].assembler.timer = none ∧ u.room.lines[l].decoder.inLine = false ∧
        u.room.lines[l].decoder.returnSeen = false ∧ u.room.lines[l].decoder.case = s.room.lines[l].decoder.case ∧
        u.room.lines[l].settings = s.room.lines[l].settings ∧
        u.room.ports[linePort l].conditions =
          { s.room.ports[linePort l].conditions with broken := false, directoryFull := false } ∧
        u.room.ports[linePort l].queue = s.room.ports[linePort l].queue ∧
        (s.room.lines[l].sender.machine = .sending →
          u.room.ports[linePort l].inService = true ∧
          u.room.lines[l].sender = { s.room.lines[l].sender with
            stopPending := if s.room.lines[l].sender.stopPending = some .cut then some .cut else some kind }) ∧
        (s.room.lines[l].sender.machine ≠ .sending → s.room.lines[l].sender.txChar = none →
          u.room.ports[linePort l].inService = false ∧ u.room.lines[l].sender.machine = .out ∧
          u.room.lines[l].sender.farOpen = 0 ∧ u.room.lines[l].sender.suspension = .empty ∧
          u.room.lines[l].sender.stopPending = none ∧ u.room.lines[l].sender.current = none) ∧
        (∀ m : Fin 16, m ≠ l → u.room.lines[m] = s.room.lines[m]) ∧
        (∀ q : Fin 24, q ≠ linePort l → u.room.ports[q] = s.room.ports[q]) ∧
        u.room.desks = s.room.desks ∧ u.room.stories = s.room.stories ∧ u.room.pool = s.room.pool) ∧
  (∀ (tag : Octet) (d : Fin 8) (kind : StopKind) (s : State), Takes s → s.room.ports[deskPort d].inService = true →
      s.room.desks[d].composing = none →
      ∃ u : State,
        exec (match kind with
          | .drain => .portStopDrain tag (16 + d.val)
          | .cut => .portStopCut tag (16 + d.val)) s = .next u.finish ∧
        u.pending = s.pending ∧ u.time = s.time ∧ u.part = s.part ∧
        u.room.link.replies = s.room.link.replies ++ [doneReply tag .none] ∧
        u.room.desks[d].state = .out ∧ u.room.desks[d].pause = false ∧ u.room.desks[d].output = .none ∧
        u.room.desks[d].current = none ∧ u.room.desks[d].short = [] ∧ u.room.desks[d].buffer = [] ∧
        u.room.desks[d].settings = s.room.desks[d].settings ∧
        u.room.ports[deskPort d].inService = false ∧
        u.room.ports[deskPort d].conditions = { s.room.ports[deskPort d].conditions with stalled := false } ∧
        u.room.ports[deskPort d].queue =
          (match s.room.desks[d].current with
            | some x => queueHead ⟨x.slot, x.cls, s.time.seconds⟩ s.room.ports[deskPort d].queue
            | none => s.room.ports[deskPort d].queue) ∧
        (∀ e : Fin 8, e ≠ d → u.room.desks[e] = s.room.desks[e]) ∧
        (∀ q : Fin 24, q ≠ deskPort d → u.room.ports[q] = s.room.ports[q]) ∧
        u.room.lines = s.room.lines ∧ u.room.stories = s.room.stories ∧ u.room.pool = s.room.pool) ∧
  (∀ (tag : Octet) (l : Fin 16) (kind : StopKind) (s : State), Takes s → s.room.ports[linePort l].inService = true →
      let x := s.room.lines[l]
      let c := s.room.ports[linePort l].conditions
      TruncatesPlainly s l → x.sender.identify.phase = .none → x.sender.machine ≠ .identifying →
      x.sender.machine = .sending ∨ x.sender.txChar = none →
      ∃ w u : State, ClosedTruncated s w l ∧
        exec (match kind with
          | .drain => .portStopDrain tag l.val
          | .cut => .portStopCut tag l.val) s = .next u.finish ∧
        u.pending = s.pending ∧ u.time = s.time ∧ u.part = s.part ∧
        u.room = { w.room with
          lines := u.room.lines
          ports := w.room.ports.set (linePort l) { w.room.ports[linePort l] with
            inService := decide (x.sender.machine = .sending)
            conditions := { w.room.ports[linePort l].conditions with broken := false, directoryFull := false } }
          link := { w.room.link with
            replies := s.room.link.replies ++ [doneReply tag .none]
            notices := if c.broken = true ∨ c.directoryFull = true then portPosted (linePort l) w.room.link.notices
              else w.room.link.notices } } ∧
        (∀ m : Fin 16, m ≠ l → u.room.lines[m] = s.room.lines[m]) ∧
        u.room.lines[l].settings = x.settings ∧ u.room.lines[l].receiver.state = .off ∧
        u.room.lines[l].assembler = { x.assembler with
          machine := .off, window := [], skip := false, current := none, suspended := none, timer := none
          fifo := if x.assembler.current = none then x.assembler.fifo else [], markers := s.part.markers } ∧
        (x.sender.machine = .sending → u.room.lines[l].sender = { x.sender with
          stopPending := if x.sender.stopPending = some .cut then some .cut else some kind }) ∧
        (x.sender.machine ≠ .sending → u.room.lines[l].sender.machine = .out ∧
          u.room.lines[l].sender.farOpen = 0 ∧ u.room.lines[l].sender.suspension = .empty ∧
          u.room.lines[l].sender.stopPending = none ∧ u.room.lines[l].sender.current = none)) ∧
  ((∀ (tag : Octet) (l : Fin 16) (kind : StopKind) (s : State), Takes s →
        let x := s.room.lines[l]
        let y := x.sender
        let i := y.identify
        let p := s.room.ports[linePort l]
        let pending : Option StopKind := if y.stopPending = some .cut then some .cut else some kind
        let closed : Identify := { i with phase := .none, request := false, timer := none, outcome := .none }
        p.inService = true → x.assembler.current = none → x.assembler.suspended = none → x.assembler.window = [] →
        i.phase ≠ .none → s.room.link.waiting = [] →
        let stopped (u : State) : Prop :=
          exec (match kind with
            | .drain => .portStopDrain tag l.val
            | .cut => .portStopCut tag l.val) s = .next u.finish ∧
          u.time = s.time ∧ u.part = s.part ∧ u.room.stories = s.room.stories ∧ u.room.desks = s.room.desks ∧
          u.room.lines[l].receiver.state = .off ∧ u.room.lines[l].assembler.machine = .off ∧
          (i.request = false ∨ i.outcome ≠ .none →
            u.room.link.replies = s.room.link.replies ++ [doneReply tag .none]) ∧
          (∀ old : Octet, i.request = true → i.outcome = .none → s.room.link.records = [⟨.line l, old⟩] →
            s.room.link.replies.length + 2 ≤ 8 →
            u.room.link.records = [] ∧
            u.room.link.replies = s.room.link.replies ++ [doneReply tag .none, ⟨old, .cut, none,
              .identifyCut (if i.phase = .pending then 0 else i.tryNumber)
                (if i.phase = .pending then [] else i.collector)⟩]) ∧
          (∀ m : Fin 16, m ≠ l → u.room.lines[m] = s.room.lines[m]) ∧
          ∀ q : Fin 24, q ≠ linePort l → u.room.ports[q] = s.room.ports[q]
        (y.machine = .identifying → y.txChar = none →
          (y.column = 0 → y.farOpen = 0 → y.suspension = .empty →
            ∃ u : State, stopped u ∧ u.room.lines[l].sender.machine = .out ∧
              u.room.lines[l].sender.identify.phase = .none ∧ u.room.lines[l].sender.current = none ∧
              u.room.ports[linePort l].inService = false ∧
              u.room.ports[linePort l].queue = (match y.current with
                | some d => queueHead ⟨d.slot, d.cls, s.time.seconds⟩ p.queue
                | none => p.queue)) ∧
          (y.column ≠ 0 →
            ∃ u : State, stopped u ∧ returnBegins x s.time.ticks .cutPoint u.room.lines[l].sender ∧
              u.room.lines[l].sender.machine = .sending ∧ u.room.lines[l].sender.identify = closed ∧
              u.room.lines[l].sender.stopPending = pending ∧ u.room.ports[linePort l].inService = true)) ∧
        (y.machine = .identifying → y.txChar ≠ none →
          (∀ (next : Next) (n : Nat) (fill : FillChar) (refresh own : Bool), y.activity = .ret next n fill refresh own →
            ∃ u : State, stopped u ∧ u.room.ports[linePort l].inService = true ∧ u.room.lines[l].sender = { y with
              machine := .sending, identify := closed, stopPending := pending
              activity := .ret .cutPoint n fill refresh own }) ∧
          (y.activity = .call → y.halt = .none →
            ∃ u : State, stopped u ∧ u.room.ports[linePort l].inService = true ∧ u.room.lines[l].sender = { y with
              machine := .sending, identify := closed, stopPending := pending, halt := .stopped })) ∧
        (y.machine = .sending →
          ∃ u : State, stopped u ∧ u.room.ports[linePort l].inService = true ∧
            u.room.ports[linePort l].queue = p.queue ∧
            u.room.lines[l].sender = { y with identify := closed, stopPending := pending }) ∧
        (y.machine = .quiet ∨ y.machine = .starting ∨ y.machine = .ready ∨ y.machine = .blocked → y.txChar = none →
          ∃ u : State, stopped u ∧ u.room.lines[l].sender.machine = .out ∧ u.room.lines[l].sender.identify = closed ∧
            u.room.ports[linePort l].inService = false ∧ u.room.ports[linePort l].queue = p.queue)) ∧
    (∀ (l : Fin 16) (c : SendCode) (t : Nat) (s : State),
        let x := s.room.lines[l]
        let y := x.sender
        let p := s.room.ports[linePort l]
        let now := max s.time.ticks (t + x.settings.charTicks)
        let ends (u : State) : Prop := exec (.sendCharacterEnd l) s = .next u.finish ∧
          u.time = { s.time with ticks := now } ∧ u.room.stories = s.room.stories ∧ u.room.link = s.room.link
        y.txChar = some (c, t) → y.halt = .stopped → y.activity = .call →
        (y.column ≠ 0 → ∃ u : State, ends u ∧ OnlyLine s u l ∧
          returnBegins x now .cutPoint u.room.lines[l].sender ∧ u.room.lines[l].sender.halt = .none) ∧
        (y.column = 0 → y.farOpen = 0 → y.suspension = .empty →
          ∃ u : State, ends u ∧ u.room.lines[l].sender.machine = .out ∧ u.room.lines[l].sender.current = none ∧
            u.room.lines[l].sender.stopPending = none ∧
            u.room.ports = s.room.ports.set (linePort l) { p with
              inService := false
              queue := match y.current with
                | some d => queueHead ⟨d.slot, d.cls, s.time.seconds⟩ p.queue
                | none => p.queue })))

/-- IDENTIFY that passes its checks is a long request: a record and no reply, the exchange PENDING with the request
flag set. A sender that is SENDING goes on as it was, and so does one within a character; one at rest in QUIET, or in
BLOCKED, enters STARTING, told for a start wait that is not 0; one at rest in READY enters IDENTIFYING and begins the
exchange. Nothing else changes. That a BLOCKED sender ends its character first is the model's inference (log entry 13).
An exchange that is PENDING, or that identify-before-send asks for on a BOTH line, begins at the end of the motor start
wait with no answer pending; when the return of an answer sent in READY ends, for identify-before-send with an eligible
entry; and, when PENDING, at the end of a return in SENDING behind which a cell of the story would be sent, the story
and any suspension kept, or at which an interruption or a cancelled delivery is over. These returns are the one after
OPEN and that of a stored line end, where no FLASH breaks the story off, a fold or a hard break, and the one after
RESUME, the resumed story current; the cells are a line end, a bell or word cell with a position, and spaces before a
word, even of dropped cells alone. With only spaces left the CLOSE marker begins and the exchange waits. The sender is
IDENTIFYING, its column kept. In HUNT with the window empty try 1 begins: IDENT behind a figures shift unless the case
is FIGURES; else the sender holds mark in AWAITING, until the inactivity expiry in HUNT. With no IDENT position an
exchange of identify-before-send fails at once: nothing is sent, the sender is BLOCKED, UNIDENTIFIED joins the
condition set and the port is posted (R119, R120, R131, R145, R156–R159, R162, R165, R188). That the send case is
FIGURES from the start of its shift is the model's inference (log entry 10); the tick the counter is moved up to is its
choice (log entry 3). -/
def Obligations.IdentifyBegins : Prop :=
  (∀ (tag : Octet) (l : Fin 16) (s : State), Takes s →
      let x := s.room.lines[l]
      s.room.ports[linePort l].inService = true → x.settings.mode = .both → x.sender.stopPending = none →
      s.room.ports[linePort l].conditions.broken = false → x.sender.identify.phase = .none →
      x.sender.identPos ≠ none → x.settings.expected ≠ [] →
      let asked := { x.sender with identify := { x.sender.identify with phase := .pending, request := true } }
      let put (y : Sender) : State := { s with room := { s.room with
        lines := s.room.lines.set l { x with sender := y }
        link := { s.room.link with records := s.room.link.records ++ [⟨.line l, tag⟩] } } }
      (x.sender.machine = .sending → exec (.identify tag l.val) s = .next (put asked).finish) ∧
      (x.sender.txChar ≠ none → exec (.identify tag l.val) s = .next (put asked).finish) ∧
      (x.sender.machine = .blocked ∨
          (x.sender.machine = .quiet ∧ x.sender.activity = .idle ∧ x.sender.halt = .none) → x.sender.txChar = none →
        x.settings.startWait ≠ 0 → exec (.identify tag l.val) s = .next
          (put { asked with machine := .starting, startTimer := some s.time.ticks, idleTimer := none }).finish) ∧
      (x.sender.machine = .ready → x.sender.txChar = none → x.sender.activity = .idle → x.sender.halt = .none →
        x.sender.side.refresh = false →
        ∃ u : State, exec (.identify tag l.val) s = .next u.finish ∧ u.time = s.time ∧ u.part = s.part ∧
          u.pending = s.pending ∧ u.room = { (put asked).room with lines := u.room.lines } ∧
          u.room.lines[l] = { x with sender := u.room.lines[l].sender } ∧
          (∀ m : Fin 16, m ≠ l → u.room.lines[m] = s.room.lines[m]) ∧
          exchangeBegins x true x.sender.case s.time.ticks u.room.lines[l].sender)) ∧
  ((∀ (l : Fin 16) (t : Nat) (s : State),
        let x := s.room.lines[l]
        let y := x.sender
        let p := s.room.ports[linePort l]
        let now := max s.time.ticks (t + x.settings.startWait * 100)
        y.machine = .starting → y.startTimer = some t → y.answerPending = false → y.txChar = none →
        y.side.refresh = false → x.settings.mode = .both →
        x.settings.identifyBefore = true ∨ y.identify.phase = .pending →
        (x.assembler.machine ≠ .hunt ∨ x.assembler.window ≠ [] ∨ y.identPos ≠ none →
          ∃ u : State, exec (.startWaitEnd l) s = .next u.finish ∧ u.time = { s.time with ticks := now } ∧
            OnlyLine s u l ∧ u.room.lines[l] = { x with sender := u.room.lines[l].sender } ∧
            exchangeBegins x y.identify.request y.case now u.room.lines[l].sender) ∧
        (x.assembler.machine = .hunt → x.assembler.window = [] → y.identPos = none → y.identify.request = false →
          y.current = none → y.suspension = .empty →
          ∃ u : State, exec (.startWaitEnd l) s = .next u.finish ∧ u.time = { s.time with ticks := now } ∧
            u.part = s.part ∧ u.room.stories = s.room.stories ∧ u.room.desks = s.room.desks ∧
            (∀ m : Fin 16, m ≠ l → u.room.lines[m] = s.room.lines[m]) ∧
            u.room.lines[l] = { x with sender := u.room.lines[l].sender } ∧
            u.room.lines[l].sender.machine = .blocked ∧ u.room.lines[l].sender.identify.phase = .none ∧
            u.room.lines[l].sender.txChar = none ∧ u.room.lines[l].sender.current = none ∧
            u.room.lines[l].sender.column = y.column ∧
            u.room.ports = s.room.ports.set (linePort l)
              { p with conditions := { p.conditions with unidentified := true } } ∧
            u.room.link = { s.room.link with
              notices :=
              if p.conditions.unidentified = true ∨ Notice.port (linePort l) ∈ s.room.link.notices then
                s.room.link.notices
              else s.room.link.notices ++ [.port (linePort l)] })) ∧
    (∀ (l : Fin 16) (c : SendCode) (t n : Nat) (next : Next) (fill : FillChar) (refresh own : Bool) (s : State),
        let x := s.room.lines[l]
        let y := x.sender
        let now := max s.time.ticks (t + x.settings.charTicks)
        let case := if fill = .letters ∧ 1 ≤ n then SendCase.letters else if refresh then .unknown else y.case
        let begins (u : State) : Prop := exec (.sendCharacterEnd l) s = .next u.finish ∧
          u.time = { s.time with ticks := now } ∧ OnlyLine s u l ∧
          u.room.lines[l] = { x with sender := u.room.lines[l].sender } ∧
          exchangeBegins x y.identify.request case now u.room.lines[l].sender
        y.txChar = some (c, t) → y.halt = .none → y.codes = [] → y.stopPending = none → y.staged = StagedSend.none →
        y.side.refresh = false → y.activity = .ret next n fill refresh own →
        (x.assembler.machine ≠ .hunt ∨ x.assembler.window ≠ [] ∨ y.identPos ≠ none) →
        (y.machine = .ready → next = .ready →
          y.identify.phase = .pending ∨ x.settings.identifyBefore = true ∧ x.settings.mode = .both ∧
            (∃ e ∈ s.room.ports[linePort l].queue, s.room.stories[e.slot].held = false) →
          ∃ u : State, begins u ∧ u.room.lines[l].sender.answerPending = false) ∧
        (y.machine = .sending → y.identify.phase = .pending → y.answerPending = false →
          let sends (a : Cell) (rest : List Cell) : Prop :=
            a = 10 ∨ a = 32 ∧ (∃ w ∈ rest, isWordCell w = true) ∨
            a = 7 ∧ ({ y with case := case } : Sender).encodeBell ≠ [] ∨
            isWordCell a = true ∧ (({ y with case := case } : Sender).encode a).1 ≠ []
          let unbroken (d : Delivery) : Prop := d.cls = .flash ∨ y.suspension ≠ .empty ∨
            ∀ (before after : List QEntry) (e : QEntry), s.room.ports[linePort l].queue = before ++ e :: after →
              (∀ z ∈ before, s.room.stories[z.slot].held = true) → s.room.stories[e.slot].held = false → e.cls ≠ .flash
          (∀ (d : Delivery) (a : Cell) (rest : List Cell),
            next = .text ∨ next = .afterLine true ∨ (next = .afterOpen ∨ next = .afterLine false) ∧ unbroken d →
            y.current = some d → s.room.stories[d.slot].text.drop y.readPos = a :: rest → sends a rest →
            ∃ u : State, begins u ∧ u.room.lines[l].sender.current = some d ∧
              u.room.lines[l].sender.readPos = y.readPos ∧ u.room.lines[l].sender.suspension = y.suspension) ∧
          (∀ (h : HeldContext) (a : Cell) (rest : List Cell), next = .afterResume → y.suspension = .held h →
            s.room.stories[h.slot].text.drop h.readPos = a :: rest → sends a rest →
            ∃ u : State, begins u ∧ u.room.lines[l].sender.current = some ⟨h.slot, h.cls⟩ ∧
              u.room.lines[l].sender.readPos = h.readPos ∧ u.room.lines[l].sender.suspension = .empty ∧
              u.room.lines[l].sender.substitutions = h.substitutions) ∧
          (∀ (d : Delivery) (a pos : Nat) (rest : List Nat), next = .text ∨ next = .afterLine true →
            y.current = some d → y.column = 0 → (∀ z ∈ s.room.stories[d.slot].text.drop y.readPos, z = 32) →
            s.part.markers.cls = a :: rest → y.map.letters.getD a none = some pos →
            ∃ u : State, exec (.sendCharacterEnd l) s = .next u.finish ∧ OnlyLine s u l ∧
              u.room.lines[l].sender.identify = y.identify ∧ u.room.lines[l].sender.machine = .sending ∧
              u.room.lines[l].sender.activity = .marker .cls rest .complete ∧
              letterBegins case 0 pos now u.room.lines[l].sender) ∧
          (next = .withdrawnDone ∨ next = .heldCancelDone ∨ next = .cancelDone ∧ y.suspension = .empty →
            ∃ u : State, begins u ∧ u.room.lines[l].sender.current = y.current ∧
              u.room.lines[l].sender.suspension = .empty))) ∧
    (∀ (l : Fin 16) (t position : Nat) (s : State),
        let x := s.room.lines[l]
        let now := max s.time.ticks (t + x.settings.inactivity * 100000)
        x.assembler.timer = some t → x.assembler.machine = .hunt → x.assembler.suspended = none →
        x.sender.identify.phase = .awaiting → x.sender.identPos = some position →
        ∃ u : State, exec (.inactivityExpiry l) s = .next u.finish ∧ u.time = { s.time with ticks := now } ∧
          u.part = s.part ∧ u.room.stories = s.room.stories ∧ u.room.desks = s.room.desks ∧
          u.room.link = s.room.link ∧ (∀ m : Fin 16, m ≠ l → u.room.lines[m] = s.room.lines[m]) ∧
          (∀ q : Fin 24, q ≠ linePort l → u.room.ports[q] = s.room.ports[q]) ∧
          u.room.lines[l].assembler = { x.assembler with
            window := [], skip := false, timer := none, markers := s.part.markers } ∧
          u.room.lines[l].sender.machine = x.sender.machine ∧
          tryBegins (x.sender.identify.tryNumber + 1) position x.sender.case now u.room.lines[l].sender))

/-! ## Stories -/

/-- STORY OPEN gives the lowest slot that is FREE with no notice pending: its record is new, ASSEMBLING, of the host,
with the limit 8,192 and the wire clock's reading, and its scan context has the lede window in force; nothing else
changes. With eight host stories not yet closed it is refused BUSY, and with no such slot STORE FULL (R66, R73, R90);
that BUSY comes before STORE FULL is the model's choice (log entry 36). STORY APPEND of valid cells that fit the
story's last block and its limit: all are taken, in order, at the end of the text; line ends and garble marks are
counted. Only the story's keyword set and scan context may change besides (R74, R91). At the limit nothing is written
and every cell is not taken; a run of cells that no story may hold is rejected whole. Cells that need blocks take them
from the pool one by one, an invalid cell is counted as rejected, and at the first valid cell that begins a block of
an empty pool the writing stops: that cell and all after it are not taken, told for a reclaim test that frees nothing.
That the length limit is what stops the writing there, the pool empty or not, is the model's choice (log entry 41). -/
def Obligations.StoryOpenAndAppend : Prop :=
  (∀ (tag : Octet) (s : State), Takes s →
      (8 ≤ s.room.hostStories → exec (.storyOpen tag) s = refused s tag .busy) ∧
      (s.room.hostStories < 8 →
        ((∀ i : Fin 256, s.room.stories[i].state ≠ .free ∨ s.room.stories[i].noticePending = true) →
          exec (.storyOpen tag) s = refused s tag .storeFull) ∧
        ∀ i : Fin 256, s.room.stories[i].state = .free → s.room.stories[i].noticePending = false →
          (∀ j : Fin 256, j < i → s.room.stories[j].state ≠ .free ∨ s.room.stories[j].noticePending = true) →
          exec (.storyOpen tag) s = answered { s with room := { s.room with
            stories := s.room.stories.set i
              { Story.blank with
                state := .assembling, origin := some .host, opened := some s.time.clock, limit := 8192 }
            scans := s.room.scans.set i (some ⟨s.part.lede, true, 0, []⟩) } } tag (.slot i))) ∧
  (∀ (tag : Octet) (i : Fin 256) (cells : List Nat) (s : State), Takes s → s.room.stories[i].state = .assembling →
      s.room.stories[i].origin = some .host → s.room.stories[i].closed = false → cells.length ≤ 200 →
      ((∀ c ∈ cells, c = 7 ∨ c = 10 ∨ (32 ≤ c ∧ c ≤ 126) ∨ c = 128) →
        s.room.stories[i].text.length + cells.length ≤ 64 * s.room.stories[i].chain.length →
        s.room.stories[i].text.length + cells.length ≤ 8192 →
        ∃ (keywords : KeywordSet) (scan : Option Scan),
          exec (.storyAppend tag i.val cells) s = answered { s with room := { s.room with
            stories := s.room.stories.set i { s.room.stories[i] with
              text := s.room.stories[i].text ++ cells
              textLines := s.room.stories[i].textLines + cells.count 10
              garbles := s.room.stories[i].garbles + cells.count 128
              keywords := keywords }
            scans := s.room.scans.set i scan } } tag (.append cells.length 0 0 none)) ∧
      ((∀ c ∈ cells, c = 7 ∨ c = 10 ∨ (32 ≤ c ∧ c ≤ 126) ∨ c = 128) → cells ≠ [] →
        8192 ≤ s.room.stories[i].text.length →
        exec (.storyAppend tag i.val cells) s = answered s tag (.append 0 0 cells.length (some .lengthLimit))) ∧
      ((∀ c ∈ cells, c ≠ 7 ∧ c ≠ 10 ∧ (c < 32 ∨ 126 < c) ∧ c ≠ 128) →
        exec (.storyAppend tag i.val cells) s = answered s tag (.append 0 cells.length 0 none)) ∧
      ((∀ j ∈ s.room.settled, s.room.stories[j].held = true) → s.room.freeCount = s.room.pool.length →
        s.room.stories[i].text.length ≤ 64 * s.room.stories[i].chain.length →
        let old := s.room.stories[i]
        let ok (c : Nat) : Bool := c = 7 ∨ c = 10 ∨ (32 ≤ c ∧ c ≤ 126) ∨ c = 128
        let valid := cells.filter ok
        let wrote (u : State) (new : List Cell) (n : Nat) (results : Results) : Prop :=
          exec (.storyAppend tag i.val cells) s = .next u.finish ∧ u.time = s.time ∧ u.part = s.part ∧
          u.pending = s.pending ∧ u.room.ports = s.room.ports ∧ u.room.lines = s.room.lines ∧
          u.room.desks = s.room.desks ∧ u.room.settled = s.room.settled ∧
          u.room.link = { s.room.link with replies := s.room.link.replies ++ [doneReply tag results] } ∧
          (∀ j : Fin 256, j ≠ i → u.room.stories[j] = s.room.stories[j]) ∧
          ∃ (blocks : List Nat) (keywords : KeywordSet), blocks.length = n ∧
            (u.room.pool ++ blocks).Perm s.room.pool ∧ u.room.freeCount + n = s.room.freeCount ∧
            u.room.stories[i] = { old with
              text := old.text ++ new, textLines := old.textLines + new.count 10
              garbles := old.garbles + new.count 128, chain := old.chain ++ blocks, keywords := keywords }
        (old.text.length + valid.length ≤ 8192 →
          old.text.length + valid.length ≤ 64 * (old.chain.length + s.room.freeCount) →
          ∃ u : State, wrote u valid (blocksFor (old.text.length + valid.length) - old.chain.length)
            (.append valid.length (cells.length - valid.length) 0 none)) ∧
        (∀ (before rest : List Nat) (c : Nat), cells = before ++ c :: rest → ok c = true →
          let new := before.filter ok
          old.text.length + new.length = 64 * (old.chain.length + s.room.freeCount) →
          64 * (old.chain.length + s.room.freeCount) < 8192 →
          ∃ u : State, wrote u new s.room.freeCount
            (.append new.length (before.length - new.length) (rest.length + 1) (some .emptyPool)))))

/-- A story is headed exactly when the first four tokens of its header line, the cells up to its first line end, have
their forms, whatever spaces stand before and between them: three letters, 1 to 4 digits of a value above 0, a class letter,
two letters. The record keeps the source and the category in upper case, the serial's value and the class. A fifth token of
1 to 5 digits of a value above 0 and the letter W is the word count. What follows the last field parsed, with the spaces
before and after it gone and cut to 24 cells without spaces at their end, is the slug, as received, or absent when nothing
remains. In every other case there is no header record (R58, R59). -/
def Obligations.HeaderLineIsParsed : Prop :=
  ∀ (text : List Cell) (h : Header),
    let spaces (n : Nat) : List Cell := List.replicate n 32
    let ends (rest : List Cell) : Prop := rest = [] ∨ rest.head? = some 32
    let value (digits : List Cell) : Nat := Nat.ofDigits 10 (digits.reverse.map fun c => c - 48)
    let digits (low high : Nat) (t : List Cell) : Prop :=
      low ≤ t.length ∧ t.length ≤ high ∧ (∀ c ∈ t, 48 ≤ c ∧ c ≤ 57) ∧ 1 ≤ value t
    let letters (n : Nat) (t : List Cell) : Prop := t.length = n ∧ ∀ c ∈ t, (65 ≤ c ∧ c ≤ 90) ∨ (97 ≤ c ∧ c ≤ 122)
    let slugged (rest : List Cell) : Prop :=
      ((∀ c ∈ rest, c = 32) ∧ h.slug = none) ∨
      ∃ (a b e : Nat) (body slug : List Cell), rest = spaces a ++ body ++ spaces b ∧ body.head? ≠ some 32 ∧
        body.getLast? ≠ some 32 ∧ body.take 24 = slug ++ spaces e ∧ slug ≠ [] ∧ slug.getLast? ≠ some 32 ∧
        h.slug = some slug
    let counted (rest after digit : List Cell) : Prop := ∃ (n : Nat) (w : Cell),
      rest = spaces (n + 1) ++ digit ++ w :: after ∧ ends after ∧ digits 1 5 digit ∧ (w = 87 ∨ w = 119)
    parseHeader text = some h ↔
      ∃ (line other source serial category rest : List Cell) (cls : Cell) (a b c d : Nat),
        text = line ++ other ∧ 10 ∉ line ∧ (other = [] ∨ other.head? = some 10) ∧
        line = spaces a ++ source ++ spaces (b + 1) ++ serial ++ spaces (c + 1) ++ cls :: spaces (d + 1) ++ category ++ rest ∧
        ends rest ∧ letters 3 source ∧ digits 1 4 serial ∧ letters 2 category ∧
        h.source = source.map upper ∧ h.serial = value serial ∧ h.category = category.map upper ∧
        (upper cls, h.cls) ∈ [(70, Machine.Class.flash), (85, Class.urgent), (79, Class.ordinary), (68, Class.deferred)] ∧
        ((∃ after digit : List Cell, counted rest after digit ∧ h.wordCount = some (value digit) ∧ slugged after) ∨
          ((∀ after digit : List Cell, ¬ counted rest after digit) ∧ h.wordCount = none ∧ slugged rest))

/-- The cells of a text written from a story's opening on, under keyword entries as R88 allows them. The part scanned is the
whole text for a window of 0, and otherwise the text up to its window's last line end, the one after as many text lines as
the window's length follow the header line. An entry is in the keyword set exactly when its text stands in the part scanned,
in any mixture of cases, between boundary cells, or at the story's beginning, with the cell after it written; at the edge of
a window still open one that stands at the end of the text joins too. The context counts the line ends and keeps the last 16
cells of the part scanned. STORY APPEND writes its cells so. STORY CLOSE of an unheaded story routed nowhere applies the
actions of the entries in the set at the edge: RAISE by one step, to URGENT from ORDINARY, and no class else, however many
there are; STOP holds it; NOTE and an entry unused since do nothing (R74, R83, R90, R91, R92, R93). -/
def Obligations.KeywordsAreScanned : Prop :=
  (∀ (keywords : Vector (Option Keyword) 24) (window : Nat) (text seen rest : List Cell),
      (∀ (i : Fin 24) (k : Keyword), keywords[i] = some k → keywordLegal k) →
      text = seen ++ rest →
      ((rest = [] ∧ (window = 0 ∨ seen.count 10 ≤ window)) ∨
        (window ≠ 0 ∧ seen.count 10 = window + 1 ∧ seen.getLast? = some 10)) →
      let go := text.foldl (fun (x : Scan × KeywordSet) c => x.1.cell keywords c x.2) (Scan.start window, emptySet)
      let stands (k : Keyword) (before after : List Cell) : Prop :=
        ∃ word : List Cell, seen = before ++ word ++ after ∧ word.map upper = k.text ∧
          before.getLast?.all isBoundary = true
      go.1.window = window ∧ go.1.lineEnds = text.count 10 ∧
      go.1.opened = decide (window = 0 ∨ text.count 10 ≤ window) ∧
      go.1.tail = seen.drop (seen.length - 16) ∧
      (∀ (i : Fin 24) (k : Keyword), keywords[i] = some k →
        (go.2[i] = true ↔ ∃ (before after : List Cell) (c : Cell), stands k before (c :: after) ∧ isBoundary c = true) ∧
        ((go.1.edge keywords go.2)[i] = true ↔ ∃ before after : List Cell, stands k before after ∧
          (after.head?.all isBoundary = true))) ∧
      (∀ i : Fin 24, keywords[i] = none → go.2[i] = false ∧ (go.1.edge keywords go.2)[i] = false)) ∧
  (∀ (keywords : Vector (Option Keyword) 24) (set : KeywordSet) (c : Machine.Class),
      ((∃ (i : Fin 24) (k : Keyword), set[i] = true ∧ keywords[i] = some k ∧ k.action = .raise) →
        raised keywords set c = if c = .deferred then .ordinary else if c = .ordinary then .urgent else c) ∧
      ((∀ (i : Fin 24) (k : Keyword), set[i] = true → keywords[i] = some k → k.action ≠ .raise) →
        raised keywords set c = c) ∧
      (stopped keywords set = true ↔
        ∃ (i : Fin 24) (k : Keyword), set[i] = true ∧ keywords[i] = some k ∧ k.action = .stop)) ∧
  (∀ (tag : Octet) (i : Fin 256) (cells : List Nat) (scan : Scan) (s : State), Takes s →
      s.room.stories[i].state = .assembling → s.room.stories[i].origin = some .host →
      s.room.stories[i].closed = false → s.room.scans[i] = some scan →
      (cells.length ≤ 200 → (∀ c ∈ cells, c = 7 ∨ c = 10 ∨ (32 ≤ c ∧ c ≤ 126) ∨ c = 128) →
        s.room.stories[i].text.length + cells.length ≤ 64 * s.room.stories[i].chain.length →
        s.room.stories[i].text.length + cells.length ≤ 8192 →
        let go := cells.foldl (fun (x : Scan × KeywordSet) c => x.1.cell s.part.keywords c x.2)
          (scan, s.room.stories[i].keywords)
        exec (.storyAppend tag i.val cells) s = answered { s with room := { s.room with
          stories := s.room.stories.set i { s.room.stories[i] with
            text := s.room.stories[i].text ++ cells
            textLines := s.room.stories[i].textLines + cells.count 10
            garbles := s.room.stories[i].garbles + cells.count 128
            keywords := go.2 }
          scans := s.room.scans.set i (some go.1) } } tag (.append cells.length 0 0 none)) ∧
      (s.room.stories[i].text ≠ [] → parseHeader s.room.stories[i].text = none → s.part.defaultSet = emptySet →
        s.room.stories[i].pendingSet = emptySet → s.room.stories[i].held = false →
        s.part.threshold ≤ s.room.freeCount →
        let set := scan.edge s.part.keywords s.room.stories[i].keywords
        exec (.storyClose tag i.val) s = answered { s with room := { s.room with
          stories := s.room.stories.set i { s.room.stories[i] with
            cause := some .closed, closed := true, header := none, keywords := set
            effective := raised s.part.keywords set .ordinary, held := stopped s.part.keywords set
            state := .settled, filed := some s.time.clock, noticePending := true }
          scans := s.room.scans.set i none
          filedCount := min (s.room.filedCount + 1) 65535
          settled := s.room.settled ++ [i]
          link := { s.room.link with
            notices :=
              postStoryList i StoryKinds.ofSettled (postStoryList i StoryKinds.ofFiled s.room.link.notices) } } }
          tag (.slot i)))

/-- STORY CLOSE of a host story. An empty one is closed and discarded EMPTY, its slot FREE and posted DISCARDED, no
other slot changed. One of at least a cell has its header parsed and its keyword set completed at the edge of the scan
window; told for a scan context that names no keyword. A headed story takes its header's class and enters its key into
the duplicate stack, and an unheaded one is ORDINARY. Routed to no port it is FILED at the clock's reading and SETTLED
at once, at the tail of the settled list, posted FILED and SETTLED. Routed to one port that is OUT, a desk's or that
of a line whose mode is not RECEIVE, with a load below 32, it is FILED with that port pending, its entry at the tail
of its class, queued now, and posted FILED. Routed to any ports that are all OUT, a RECEIVE line and a port with a
load of 32 are missed and each other one receives an entry. The scan context is discarded, one story more is filed,
and nothing else changes (R57, R58, R68, R75, R83, R87, R90, R91, R93, R101, R102, R105). CLOSE, or OPEN in STORY,
ends a line's current story that holds text. CLOSE appends a line end when the story is not at a line start, told for
a chain with room and a length below the maximum, and OPEN appends none. The story is counted as assembled, its header
parsed, and handed on with the cause CLOSED or UNTERMINATED: its key enters the duplicate stack and it is filed, told
for destination ports that are all OUT, with a RECEIVE line and a port at a load of 32 missed. OPEN then opens the
next story in the lowest slot that is FREE with no notice pending. On a line that tests for duplicates a story whose
key the stack holds is discarded DUPLICATE at its CLOSE: its slot is FREE with the header kept, its blocks in the
pool, the stack unchanged, nothing filed (R48, R49, R57, R84, R86, R87, R101, R102, R105). Told with no keyword entry
used and the free count at the threshold or above. -/
def Obligations.StoryCloseHandsOn : Prop :=
  (∀ (tag : Octet) (i : Fin 256) (s : State), Takes s → s.room.stories[i].state = .assembling →
      s.room.stories[i].origin = some .host → s.room.stories[i].closed = false →
      (s.room.stories[i].text = [] → s.room.stories[i].chain = [] →
        ∃ u : State, exec (.storyClose tag i.val) s = .next u.finish ∧ u.time = s.time ∧ u.part = s.part ∧
          u.room.link.replies = s.room.link.replies ++ [doneReply tag (.slot i)] ∧
          u.room.stories[i].state = .free ∧ u.room.stories[i].reason = some .empty ∧
          u.room.stories[i].noticePending = true ∧
          u.room.link.notices = postStoryList i StoryKinds.ofDiscarded s.room.link.notices ∧
          (∀ j : Fin 256, j ≠ i → u.room.stories[j] = s.room.stories[j]) ∧
          u.room.ports = s.room.ports ∧ u.room.lines = s.room.lines ∧ u.room.desks = s.room.desks ∧
          u.room.freeCount = s.room.freeCount) ∧
      (∀ scan : Scan, s.room.stories[i].text ≠ [] → s.room.scans[i] = some scan →
        scan.edge s.part.keywords s.room.stories[i].keywords = emptySet → s.room.stories[i].pendingSet = emptySet →
        let header := parseHeader s.room.stories[i].text
        let cls := match header with
          | some h => h.cls
          | none => .ordinary
        let stack := match header with
          | some h => pushKey s.room.stack ⟨h.source, h.serial⟩
          | none => s.room.stack
        let filed : Story := { s.room.stories[i] with
          cause := some .closed, closed := true, header := header, effective := cls, keywords := emptySet
          state := .filed, filed := some s.time.clock, noticePending := true }
        (setMembers (s.part.route header) = [] → s.part.threshold ≤ s.room.freeCount →
          exec (.storyClose tag i.val) s = answered { s with room := { s.room with
            stories := s.room.stories.set i { filed with state := .settled }
            scans := s.room.scans.set i none
            stack := stack
            filedCount := min (s.room.filedCount + 1) 65535
            settled := s.room.settled ++ [i]
            link := { s.room.link with
              notices :=
                postStoryList i StoryKinds.ofSettled (postStoryList i StoryKinds.ofFiled s.room.link.notices) } } }
            tag (.slot i)) ∧
        (∀ p : Fin 24, setMembers (s.part.route header) = [p] → s.room.load p < 32 →
          (∀ l : Fin 16, p = linePort l →
            s.room.lines[l].settings.mode ≠ .receive ∧ s.room.lines[l].sender.machine = .out) →
          (∀ d : Fin 8, p = deskPort d → s.room.desks[d].state = .out) →
          exec (.storyClose tag i.val) s = answered { s with room := { s.room with
            stories := s.room.stories.set i { filed with pendingSet := emptySet.set p true }
            scans := s.room.scans.set i none
            stack := stack
            filedCount := min (s.room.filedCount + 1) 65535
            ports := s.room.ports.set p { s.room.ports[p] with
              queue := queueTail ⟨i, cls, s.time.seconds⟩ s.room.ports[p].queue }
            link := { s.room.link with notices := postStoryList i StoryKinds.ofFiled s.room.link.notices } } }
            tag (.slot i)) ∧
        (s.room.stories[i].missedSet = emptySet → s.room.stories[i].doneSet = emptySet →
          AllOut s (s.part.route header) → s.part.threshold ≤ s.room.freeCount →
          ∃ u : State, exec (.storyClose tag i.val) s = .next u.finish ∧ u.time = s.time ∧ u.part = s.part ∧
            u.pending = s.pending ∧ u.room.link.replies = s.room.link.replies ++ [doneReply tag (.slot i)] ∧
            FiledTo s u i { s.room.stories[i] with
              cause := some .closed, closed := true, header := header, effective := cls, keywords := emptySet }
              (s.part.route header) ∧
            u.room.scans = s.room.scans.set i none ∧ u.room.stack = stack ∧ u.room.pool = s.room.pool ∧
            u.room.lines = s.room.lines ∧ u.room.desks = s.room.desks ∧
            (∀ p : Fin 24, u.room.ports[p] = { s.room.ports[p] with queue := u.room.ports[p].queue }) ∧
            ∀ j : Fin 256, j ≠ i → u.room.stories[j] = s.room.stories[j]))) ∧
  (∀ (l : Fin 16) (code : Fin 32) (c : Cell) (m : Marker) (i : Fin 256) (s : State),
      let x := s.room.lines[l]
      let a := x.assembler
      let p := s.room.ports[linePort l]
      let old := s.room.stories[i]
      let within := old.text.getLast? ≠ some 10
      let ended (text : List Cell) (lines : Nat) : Prop :=
        (m = .cls → within → text = old.text ++ [10] ∧ lines = old.textLines + 1 ∧
          old.text.length < 64 * old.chain.length ∧ old.text.length < x.settings.maxLength) ∧
        (m = .opn ∨ ¬ within → text = old.text ∧ lines = old.textLines)
      x.receiver.state = .framing → isFunctionCode code.val = false → x.sender.identify.phase = .none →
      x.decoder.returnSeen = false → (x.decoder.side.copy.half x.decoder.case)[code] = some (.print c) →
      32 ≤ c → c ≤ 126 → a.skip = false → (∀ y ∈ a.window, y ≠ 10) →
      m = .cls ∨ m = .opn → a.machine = .story → a.current = some i → a.fifo = [] → s.room.waitList[l] = false →
      (a.window ++ [c]).map upper = a.markers.letters m →
      (∀ n ∈ activeMarkers .story a.suspended.isSome, n ≠ m → a.markers.letters n ≠ a.markers.letters m) →
      p.conditions.waiting = false → countersLegal p.counters → old.text ≠ [] → old.overruns ≤ 65535 → PlainStory s l i →
      let framed (u : State) : Prop := exec (.characterReceived l code .mark) s = .next u.finish ∧ u.part = s.part ∧
        u.room.lines[l].assembler.window = [] ∧ u.room.lines[l].assembler.skip = true ∧
        u.room.lines[l].assembler.suspended = a.suspended ∧ u.room.lines[l].sender = x.sender ∧
        (∀ k : Fin 16, k ≠ l → u.room.lines[k] = s.room.lines[k]) ∧ u.room.desks = s.room.desks ∧
        u.room.ports[linePort l].counters = { p.counters with
          characters := min (p.counters.characters + 1) 65535, assembled := min (p.counters.assembled + 1) 65535 } ∧
        ∀ q : Fin 24, q ≠ linePort l → u.room.ports[q] = { s.room.ports[q] with queue := u.room.ports[q].queue }
      ∀ (text : List Cell) (lines : Nat), ended text lines →
        (NotDuplicate s l text → AllOut s ((s.part.route (parseHeader text)).set (linePort l) false) →
          (m = .cls → ∃ u : State, framed u ∧ HandedOn s u l i text lines .closed ∧
            u.room.lines[l].assembler.machine = .hunt ∧ u.room.lines[l].assembler.current = none ∧
            ∀ k : Fin 256, k ≠ i → u.room.stories[k] = s.room.stories[k]) ∧
          (∀ j : Fin 256, m = .opn → old.state = .assembling → p.conditions.directoryFull = false →
            s.room.stories[j].state = .free → s.room.stories[j].noticePending = false →
            (∀ k : Fin 256, k < j → s.room.stories[k].state ≠ .free ∨ s.room.stories[k].noticePending = true) →
            ∃ u : State, framed u ∧ HandedOn s u l i text lines .unterminated ∧
              u.room.lines[l].assembler.machine = .story ∧ u.room.lines[l].assembler.current = some j ∧
              u.room.stories[j] = { Story.blank with
                state := .assembling, origin := some (.line l), opened := some s.time.clock
                limit := x.settings.maxLength } ∧
              ∀ k : Fin 256, k ≠ i → k ≠ j → u.room.stories[k] = s.room.stories[k])) ∧
        (∀ h : Header, m = .cls → x.settings.dedupe = true → parseHeader text = some h → h.key ∈ s.room.stack →
          s.room.waitList = Vector.replicate 16 false →
          ∃ u : State, framed u ∧ u.room.lines[l].assembler.machine = .hunt ∧
            u.room.lines[l].assembler.current = none ∧ u.room.stories[i].state = .free ∧
            u.room.stories[i].reason = some .duplicate ∧ u.room.stories[i].header = some h ∧
            u.room.stories[i].cause = some .closed ∧ u.room.stories[i].noticePending = true ∧
            u.room.pool = s.room.pool ++ old.chain ∧ u.room.stack = s.room.stack ∧
            u.room.filedCount = s.room.filedCount ∧ u.room.settled = s.room.settled.filter (fun k => k != i) ∧
            u.room.link.notices = postStoryList i StoryKinds.ofDiscarded s.room.link.notices ∧
            (∀ q : Fin 24, u.room.ports[q].queue = s.room.ports[q].queue) ∧
            ∀ k : Fin 256, k ≠ i → u.room.stories[k] = s.room.stories[k]))

/-- STORY READ: BAD PARAMETER for a slot above 255 or a count outside 1–200, NO SUCH STORY for a FREE slot, and
otherwise DONE with the state, the length and the cells from the offset on, as many as asked, stopping at the end of
the text; nothing else changes (R76), the order of the two refusals being the model's choice (log entry 36). STORY
LIST of ASSEMBLING, FILED or SETTLED (1, 2, 3): summaries of the first seven slots in that state from the start slot
up, and the next such slot when more stand above; any other state number or a start above 255 is refused BAD
PARAMETER; nothing else changes (R77). STORY APPEND and STORY CLOSE are refused BAD PARAMETER for a slot above 255, an
append also for more than 200 cells, and SEQUENCE for a slot that holds no host story ASSEMBLING and not yet closed;
nothing changes (R74, R75), the order of an append's two refusals being the model's choice (log entry 36). What the
requests on one story refuse, nothing changed: BAD PARAMETER for a slot above 255, NO SUCH STORY for a FREE slot,
WRONG STATE for an ASSEMBLING story, STORY RELEASE also for one FILED or held; a STORY REQUEUE with an empty set or a
port above 23 is refused BAD PARAMETER (R111, R112, R114, R115). The order among the refusals of STORY REQUEUE is the
model's inference (log entry 22). -/
def Obligations.StoryReadListAndRefusals : Prop :=
  ((∀ (tag : Octet) (slot offset count : Nat) (s : State), Takes s →
        (255 < slot ∨ count = 0 ∨ 200 < count →
          exec (.storyRead tag slot offset count) s = refused s tag .badParameter) ∧
        ∀ i : Fin 256, slot = i.val → 1 ≤ count → count ≤ 200 →
          (s.room.stories[i].state = .free → exec (.storyRead tag slot offset count) s = refused s tag .noSuchStory) ∧
          (s.room.stories[i].state ≠ .free → exec (.storyRead tag slot offset count) s =
            answered s tag (.read s.room.stories[i].state s.room.stories[i].text.length
              ((s.room.stories[i].text.drop offset).take count)))) ∧
     (∀ (tag : Octet) (start : Nat) (s : State), Takes s →
        (∀ (i : Fin 256) (n : Nat) (state : StoryState), start = i.val →
          (n, state) ∈ [(1, StoryState.assembling), (2, StoryState.filed), (3, StoryState.settled)] →
          let slots := allSlots.filter fun j => i ≤ j ∧ s.room.stories[j].state = state
          exec (.storyList tag n start) s = answered s tag
            (.list ((slots.take 7).map fun j => s.room.stories[j].summary j) (slots.drop 7).head?)) ∧
        (∀ n : Nat, n = 0 ∨ 3 < n ∨ 255 < start → exec (.storyList tag n start) s = refused s tag .badParameter))) ∧
  ((∀ (tag : Octet) (cells : List Nat) (s : State), Takes s →
        (∀ slot : Nat, 255 < slot → exec (.storyAppend tag slot cells) s = refused s tag .badParameter ∧
          exec (.storyClose tag slot) s = refused s tag .badParameter) ∧
        (∀ slot : Nat, 200 < cells.length → exec (.storyAppend tag slot cells) s = refused s tag .badParameter) ∧
        (∀ i : Fin 256, (s.room.stories[i].state ≠ .assembling ∨ s.room.stories[i].origin ≠ some .host ∨
            s.room.stories[i].closed = true) →
          (cells.length ≤ 200 → exec (.storyAppend tag i.val cells) s = refused s tag .sequence) ∧
          exec (.storyClose tag i.val) s = refused s tag .sequence)) ∧
     (∀ (tag : Octet) (dest : List Nat) (s : State), Takes s →
        (∀ n : Nat, 255 < n →
          exec (.storyHold tag n) s = refused s tag .badParameter ∧
          exec (.storyUnhold tag n) s = refused s tag .badParameter ∧
          exec (.storyCancel tag n) s = refused s tag .badParameter ∧
          exec (.storyRelease tag n) s = refused s tag .badParameter ∧
          exec (.storyRequeue tag n dest) s = refused s tag .badParameter) ∧
        (∀ i : Fin 256, s.room.stories[i].state = .free →
          exec (.storyHold tag i.val) s = refused s tag .noSuchStory ∧
          exec (.storyUnhold tag i.val) s = refused s tag .noSuchStory ∧
          exec (.storyCancel tag i.val) s = refused s tag .noSuchStory ∧
          exec (.storyRelease tag i.val) s = refused s tag .noSuchStory ∧
          exec (.storyRequeue tag i.val dest) s = refused s tag .noSuchStory) ∧
        (∀ i : Fin 256, s.room.stories[i].state = .assembling →
          exec (.storyHold tag i.val) s = refused s tag .wrongState ∧
          exec (.storyUnhold tag i.val) s = refused s tag .wrongState ∧
          exec (.storyCancel tag i.val) s = refused s tag .wrongState ∧
          exec (.storyRelease tag i.val) s = refused s tag .wrongState ∧
          (dest ≠ [] → (∀ p ∈ dest, p < 24) → exec (.storyRequeue tag i.val dest) s = refused s tag .wrongState)) ∧
        (∀ i : Fin 256, s.room.stories[i].state = .filed ∨
            (s.room.stories[i].state = .settled ∧ s.room.stories[i].held = true) →
          exec (.storyRelease tag i.val) s = refused s tag .wrongState) ∧
        (∀ i : Fin 256, s.room.stories[i].state ≠ .free → dest = [] ∨ (∃ p ∈ dest, 23 < p) →
          exec (.storyRequeue tag i.val dest) s = refused s tag .badParameter)))

/-- The three forms of STATUS: a line's or a desk's port, the part, and a story's record, each DONE with every field
of its reply as the state stands, and nothing changed (R195, R196, R197). A STATUS whose selector byte is none of PORT
0, PART 1 and STORY 2, or that asks for the part with a number other than 0, is refused BAD PARAMETER, with nothing
changed; one for a port above 23 or a slot above 255 is so too, and one for a FREE slot is refused NO SUCH STORY
(R195, R196, R197). The numbers of the selectors are the model's choice (log entry 6). -/
def Obligations.StatusReportsAndRefuses : Prop :=
  (∀ (tag : Octet) (s : State), Takes s →
      (∀ l : Fin 16,
        let x := s.room.lines[l]
        let p := s.room.ports[linePort l]
        exec (.statusPort tag l.val) s = answered s tag (.statusLine
          { inService := p.inService, conditions := p.conditions, load := s.room.load (linePort l),
            promotion := p.promotion, counters := p.counters }
          { receiver := x.receiver.state, machine := x.assembler.machine, case := x.decoder.case,
            current := x.assembler.current, suspended := x.assembler.suspended,
            matching_ := decide (x.assembler.window ≠ []), waiting := s.room.waitList[l] }
          { machine := x.sender.machine, case := x.sender.case, column := x.sender.column,
            current := x.sender.current.map fun d => d.slot, answerPending := x.sender.answerPending,
            suspension := (match x.sender.suspension with
              | .empty => .empty
              | .held _ => .held
              | .withdrawn => .withdrawn),
            held := (match x.sender.suspension with
              | .held c => some (c.slot, c.cls, c.linesSent)
              | _ => none),
            farOpen := x.sender.farOpen, restartVoid := x.sender.restartVoid, stopPending := x.sender.stopPending,
            phase := x.sender.identify.phase, tryNumber := x.sender.identify.tryNumber,
            collected := x.sender.identify.collector.length }
          { table := x.decoder.side.inForce, refresh := x.decoder.side.refresh,
            staged := (if x.decoder.stagedUnshift ≠ none then [3] else []) ++
              (if x.decoder.side.staged ≠ none then [4] else []) }
          { table := x.sender.side.inForce, refresh := x.sender.side.refresh,
            staged := (if x.sender.staged.unshift ≠ none then [3] else []) ++
              (if x.sender.side.staged ≠ none then [4] else []) ++
              (if x.sender.staged.width ≠ none then [8] else []) ++
              (if x.sender.staged.allowance ≠ none then [9] else []) ++
              (if x.sender.staged.minFill ≠ none then [10] else []) ++
              (if x.sender.staged.fill ≠ none then [11] else []) ++
              (if x.sender.staged.refresh ≠ none then [12] else []) ++
              (if x.sender.staged.substitution ≠ none then [13] else []) })) ∧
      (∀ p : Fin 24, s.room.load p = s.room.ports[p].queue.length +
        (if (s.room.currentOf p).isSome then 1 else 0) + (if (s.room.suspendedOf p).isSome then 1 else 0)) ∧
      (∀ d : Fin 8,
        let x := s.room.desks[d]
        let p := s.room.ports[deskPort d]
        exec (.statusPort tag (16 + d.val)) s = answered s tag (.statusDesk
          { inService := p.inService, conditions := p.conditions, load := s.room.load (deskPort d),
            promotion := p.promotion, counters := p.counters }
          { state := x.state, pause := x.pause,
            output := (match x.output with
              | .none => .none
              | .story _ => .story
              | .withdrawalStart _ => .withdrawal
              | .withdrawal _ => .withdrawal),
            current := x.current.map fun y => y.slot, buffered := x.buffer.length, composing := x.composing })) ∧
      exec (.statusPart tag 0) s = answered s tag (.statusPart
        { freeCount := s.room.freeCount, hostStories := s.room.hostStories, settledLen := s.room.settled.length,
          waitList := s.room.waitList, filedCount := s.room.filedCount, threshold := s.part.threshold,
          lede := s.part.lede, keys := s.room.stack, searching := s.room.search.map fun x => x.next,
          clock := s.time.clock, seconds := s.time.seconds, subjects := s.room.link.notices.length,
          markers := s.part.markers }) ∧
      (∀ i : Fin 256, s.room.stories[i].state ≠ .free →
        exec (.statusStory tag i.val) s = answered s tag (.statusStory s.room.stories[i]))) ∧
  (∀ (tag : Octet) (s : State), Takes s →
      (∀ selector number : Octet, 2 < selector.toNat →
        exec (.badRequest tag 23 [selector, number]) s = refused s tag .badParameter) ∧
      (∀ n : Nat, n ≠ 0 → exec (.statusPart tag n) s = refused s tag .badParameter) ∧
      (∀ n : Nat, 23 < n → exec (.statusPort tag n) s = refused s tag .badParameter) ∧
      (∀ n : Nat, 255 < n → exec (.statusStory tag n) s = refused s tag .badParameter) ∧
      (∀ i : Fin 256, s.room.stories[i].state = .free →
        exec (.statusStory tag i.val) s = refused s tag .noSuchStory))

/-- LINE REPLACE, its checks in their order, nothing changed by a refusal: BAD PARAMETER for a slot above 255, more
than 200 cells or line 0; NO SUCH STORY for a FREE slot; WRONG STATE for a story not FILED or whose delivery has
begun; BAD PARAMETER for a cell that is not 7, 32–126 or 128, for a line at or beyond the story's number of text
lines, and for a new length above the limit; STORE FULL for more blocks than are free (R78). Otherwise the cells of a
text line after the first give way to the new ones, its line end, which the last line may lack, and the text behind it
staying; the garble marks in the record follow, the reply gives the new length, and nothing else changes but blocks.
As many blocks as before: the chain stays. Fewer, told for no port waiting: the last ones go back to the pool in chain
order. More, told for a free count not brought below the threshold: blocks of the pool join the chain's end (R79). -/
def Obligations.LineReplaceWritesLine : Prop :=
  let valid (c : Nat) : Prop := c = 7 ∨ (32 ≤ c ∧ c ≤ 126) ∨ c = 128
  (∀ (tag : Octet) (slot line : Nat) (cells : List Nat) (s : State), Takes s →
    let run := exec (.lineReplace tag slot line cells) s
    (255 < slot ∨ 200 < cells.length ∨ line = 0 → run = refused s tag .badParameter) ∧
    ∀ i : Fin 256, slot = i.val → cells.length ≤ 200 → 1 ≤ line →
      let x := s.room.stories[i]
      (x.state = .free → run = refused s tag .noSuchStory) ∧
      (x.state = .assembling ∨ x.state = .settled ∨ x.state = .filed ∧ x.begun = true →
        run = refused s tag .wrongState) ∧
      (x.state = .filed → x.begun = false →
        (∃ c ∈ cells, ¬ valid c) ∨ x.textLines + (if x.text.getLast? = some 10 then 0 else 1) ≤ line →
        run = refused s tag .badParameter)) ∧
  (∀ (tag : Octet) (i : Fin 256) (before old tail cells : List Nat) (s : State), Takes s →
    let x := s.room.stories[i]
    let size := before.length + cells.length + tail.length
    let was := blocksFor x.text.length
    let new := blocksFor size
    let run := exec (.lineReplace tag i.val (before.count 10) cells) s
    let written : Story := { x with
      text := before ++ cells ++ tail, garbles := x.garbles - old.count 128 + cells.count 128 }
    x.state = .filed → x.begun = false → x.text = before ++ old ++ tail → before.getLast? = some 10 → 10 ∉ old →
    tail.head? = some 10 ∨ (tail = [] ∧ old ≠ []) → x.textLines = x.text.count 10 → cells.length ≤ 200 →
    (∀ c ∈ cells, valid c) →
    (x.limit < size → run = refused s tag .badParameter) ∧
    (size ≤ x.limit →
      (s.room.freeCount < new - was → run = refused s tag .storeFull) ∧
      (x.chain.length = was → new = was → run = answered { s with room := { s.room with
        stories := s.room.stories.set i written } } tag (.length size)) ∧
      (x.chain.length = was → new < was → s.room.waitList = Vector.replicate 16 false →
        run = answered { s with room := { s.room with
          stories := s.room.stories.set i { written with chain := x.chain.take new }
          pool := s.room.pool ++ x.chain.drop new
          freeCount := s.room.freeCount + (was - new) } } tag (.length size)) ∧
      (was < new → s.room.freeCount = s.room.pool.length → s.part.threshold + (new - was) ≤ s.room.freeCount →
        ∃ taken left : List Nat, taken.length = new - was ∧ (taken ++ left).Perm s.room.pool ∧
          run = answered { s with room := { s.room with
            stories := s.room.stories.set i { written with chain := x.chain ++ taken }
            pool := left
            freeCount := s.room.freeCount - (new - was)
            picks := s.room.picks + (new - was) } } tag (.length size))))

/-- STORY HOLD of a FILED or SETTLED story sets its held flag, also when it stood so, and changes nothing else. STORY
UNHOLD clears it and changes nothing else when the flag was clear, when every port of a FILED story's pending set is OUT, or
when the story is SETTLED and the free count is at the threshold or above. STORY UNHOLD of a held FILED story pending at one
line alone makes its entry there eligible: a sender at rest in QUIET, its start wait not 0, enters STARTING, and nothing
else changes (R71, R108, R111, R119). -/
def Obligations.StoryHoldAndUnhold : Prop :=
  ∀ (tag : Octet) (i : Fin 256) (s : State), Takes s →
    let x := s.room.stories[i]
    let put (b : Bool) : State := { s with room := { s.room with stories := s.room.stories.set i { x with held := b } } }
    x.state = .filed ∨ x.state = .settled →
    exec (.storyHold tag i.val) s = answered (put true) tag .none ∧
    ((x.held = false ∨ (x.state = .filed ∧ x.pendingSet = emptySet) ∨
        (x.state = .settled ∧ s.part.threshold ≤ s.room.freeCount)) →
      exec (.storyUnhold tag i.val) s = answered (put false) tag .none) ∧
    (x.state = .filed →
      (∀ l : Fin 16, x.pendingSet[linePort l] = true → s.room.lines[l].sender.machine = .out) →
      (∀ d : Fin 8, x.pendingSet[deskPort d] = true → s.room.desks[d].state = .out) →
      exec (.storyUnhold tag i.val) s = answered (put false) tag .none) ∧
    (∀ l : Fin 16, x.state = .filed → x.held = true → setMembers x.pendingSet = [linePort l] →
      (∃ e ∈ s.room.ports[linePort l].queue, e.slot = i) → s.room.lines[l].sender.machine = .quiet →
      s.room.lines[l].sender.txChar = none → s.room.lines[l].sender.activity = .idle →
      s.room.lines[l].sender.halt = .none → s.room.lines[l].settings.startWait ≠ 0 →
      exec (.storyUnhold tag i.val) s = answered { s with room := { s.room with
        stories := s.room.stories.set i { x with held := false }
        lines := s.room.lines.set l { s.room.lines[l] with sender := { s.room.lines[l].sender with
          machine := .starting, startTimer := some s.time.ticks, idleTimer := none } } } } tag .none)

/-- STORY CANCEL of a SETTLED story is DONE with a count of 0 and changes nothing. Of a FILED story pending at one
port that holds it in its queue alone: the entry goes, the port is missed, the story settles at the tail of the
settled list and is posted MISSED and SETTLED, the count is 1, and no other port or story, no line and no desk
changes; told for a free count at the threshold or above, so that nothing is reclaimed (R110, R112, R116). STORY
RELEASE of a SETTLED story that is not held, with no port waiting for store: the slot is FREE with the reason RELEASED
and posted DISCARDED, every block of its chain is back in the pool, and it is off the settled list; no other slot, no
port, line or desk changes (R64, R68, R115). STORY REQUEUE of one port that is out of service, is no RECEIVE line, is
not the story's origin and not in its pending set, and has a load below 32: an entry of the story's effective class,
queued now, joins the tail of its class; the port goes to the pending set from the done or missed set; a SETTLED story
is FILED again, off the settled list and posted FILED; the reply names the port added and none missed. Nothing else
changes (R105, R114). -/
def Obligations.StoryCancelReleaseAndRequeue : Prop :=
  (∀ (tag : Octet) (i : Fin 256) (s : State), Takes s →
      (s.room.stories[i].state = .settled → exec (.storyCancel tag i.val) s = answered s tag (.ports 0)) ∧
      ∀ p : Fin 24, s.room.stories[i].state = .filed → setMembers s.room.stories[i].pendingSet = [p] →
        (∀ x, s.room.currentOf p = some x → x.slot ≠ i) → s.room.suspendedOf p ≠ some i →
        s.part.threshold ≤ s.room.freeCount →
        ∃ u : State, exec (.storyCancel tag i.val) s = .next u.finish ∧ u.time = s.time ∧ u.part = s.part ∧
          u.room = { s.room with
            ports := s.room.ports.set p
              { s.room.ports[p] with queue := s.room.ports[p].queue.filter fun e => e.slot != i }
            stories := s.room.stories.set i { s.room.stories[i] with
              state := .settled
              pendingSet := s.room.stories[i].pendingSet.set p false
              doneSet := s.room.stories[i].doneSet.set p false
              missedSet := s.room.stories[i].missedSet.set p true
              noticePending := true }
            settled := s.room.settled ++ [i]
            link := { s.room.link with
              replies := s.room.link.replies ++ [doneReply tag (.ports 1)]
              notices := postStoryList i StoryKinds.ofSettled
                (postStoryList i StoryKinds.ofMissed s.room.link.notices) } }) ∧
  (∀ (tag : Octet) (i : Fin 256) (s : State), Takes s → s.room.stories[i].state = .settled →
      s.room.stories[i].held = false → s.room.waitList = Vector.replicate 16 false →
      ∃ u : State, exec (.storyRelease tag i.val) s = .next u.finish ∧ u.time = s.time ∧ u.part = s.part ∧
        u.room.link.replies = s.room.link.replies ++ [doneReply tag .none] ∧
        u.room.link.notices = postStoryList i StoryKinds.ofDiscarded s.room.link.notices ∧
        u.room.stories[i].state = .free ∧ u.room.stories[i].reason = some .released ∧ u.room.stories[i].chain = [] ∧
        u.room.stories[i].text = [] ∧ u.room.stories[i].noticePending = true ∧
        u.room.freeCount = s.room.freeCount + s.room.stories[i].chain.length ∧
        u.room.pool = s.room.pool ++ s.room.stories[i].chain ∧
        u.room.settled = s.room.settled.filter (fun j => j != i) ∧
        (∀ j : Fin 256, j ≠ i → u.room.stories[j] = s.room.stories[j]) ∧
        u.room.ports = s.room.ports ∧ u.room.lines = s.room.lines ∧ u.room.desks = s.room.desks) ∧
  (∀ (tag : Octet) (i : Fin 256) (p : Fin 24) (s : State), Takes s →
      let x := s.room.stories[i]
      x.state = .filed ∨ x.state = .settled → x.pendingSet[p] = false →
      (∀ o, x.origin = some o → o.port? ≠ some p) → s.room.load p < 32 →
      (∀ l : Fin 16, p = linePort l → s.room.lines[l].settings.mode ≠ .receive ∧ s.room.lines[l].sender.machine = .out) →
      (∀ d : Fin 8, p = deskPort d → s.room.desks[d].state = .out) →
      exec (.storyRequeue tag i.val [p.val]) s = .next ({ s with room := { s.room with
        ports := s.room.ports.set p { s.room.ports[p] with
          queue := queueTail ⟨i, x.effective, s.time.seconds⟩ s.room.ports[p].queue }
        stories := s.room.stories.set i { x with
          state := .filed
          doneSet := x.doneSet.set p false
          missedSet := x.missedSet.set p false
          pendingSet := x.pendingSet.set p true
          noticePending := x.noticePending || x.state == .settled }
        settled := if x.state = .settled then s.room.settled.filter (fun j => j != i) else s.room.settled
        link := { s.room.link with
          replies := s.room.link.replies ++ [doneReply tag (.requeued (emptySet.set p true) emptySet)]
          notices := if x.state = .settled then postStoryList i StoryKinds.ofFiled s.room.link.notices
            else s.room.link.notices } } } : State).finish)

/-- An entry placed at the tail of its class, or returned to the head of it, leaves a queue that was in class order,
FLASH first, in class order, with every other entry in its place; a tail placement stands behind every entry of its
class and a head placement before every one (R105). A key new to a duplicate stack of at most sixteen joins it as the
newest, the oldest going when sixteen stand there and the others keeping their order; a key already held leaves the
stack as it is (R87). -/
def Obligations.QueueAndDuplicateStackOrder : Prop :=
   (∀ (e : QEntry) (q : List QEntry), q.Pairwise (fun a b => a.cls.rank ≤ b.cls.rank) →
      ∃ a b c d : List QEntry,
        q = a ++ b ∧ queueTail e q = a ++ e :: b ∧ q = c ++ d ∧ queueHead e q = c ++ e :: d ∧
        (queueTail e q).Pairwise (fun a b => a.cls.rank ≤ b.cls.rank) ∧
        (queueHead e q).Pairwise (fun a b => a.cls.rank ≤ b.cls.rank) ∧
        (∀ x ∈ a, x.cls.rank ≤ e.cls.rank) ∧ (∀ x ∈ b, e.cls.rank < x.cls.rank) ∧
        (∀ x ∈ c, x.cls.rank < e.cls.rank) ∧ (∀ x ∈ d, e.cls.rank ≤ x.cls.rank)) ∧
   (∀ (stack : List Key) (k : Key), stack.length ≤ 16 →
      (k ∈ stack → pushKey stack k = stack) ∧
      (k ∉ stack → stack.length < 16 → pushKey stack k = stack ++ [k]) ∧
      (k ∉ stack → ∀ (oldest : Key) (rest : List Key), stack = oldest :: rest → stack.length = 16 →
        pushKey stack k = rest ++ [k]) ∧
      (pushKey stack k).length ≤ 16 ∧ (stack.Nodup → (pushKey stack k).Nodup))

/-! ## Searches, resets and the link -/

/-- SEARCH that passes its checks starts a search at its first slot with its string folded and no hit, and is a long
request: a record and no reply. It is refused BAD PARAMETER for a string that is no keyword text, a slot above 255 or
a first slot above the last, and BUSY while a search runs; nothing else changes (R94, R188). A running search examines
its next slot: a FILED or SETTLED story that holds the string adds a hit with its state and the offset of the first
occurrence, any other slot adds none, and the next slot goes up by one. Short of its last slot and of 32 hits it goes
on; otherwise its DONE reply, with the hits and the mark complete, not satisfied or more, joins the reply queue when
that has a place and no reply waits, and its record goes (R95, R96, R97, R188). The offset that a search finds is
where the string stands, letters folded, with a boundary cell or an end of the text on each side, and it stands so
nowhere before; it finds none only where the string stands so nowhere (R91, R96). -/
def Obligations.SearchRunsAndFinds : Prop :=
  ((∀ (tag : Octet) (text : List Nat) (first last : Nat) (s : State), Takes s →
        (isKeywordText (text.map upper) = false ∨ 255 < first ∨ 255 < last ∨ last < first →
          exec (.search tag text first last) s = refused s tag .badParameter) ∧
        (isKeywordText (text.map upper) = true → first ≤ last → last ≤ 255 →
          (s.room.search ≠ none → exec (.search tag text first last) s = refused s tag .busy) ∧
          (s.room.search = none → exec (.search tag text first last) s = .next ({ s with room := { s.room with
            search := some ⟨text.map upper, last, first, []⟩
            link := { s.room.link with records := s.room.link.records ++ [⟨.search, tag⟩] } } } : State).finish))) ∧
     (∀ (s : State) (x : Search) (i : Fin 256), s.room.search = some x → x.next = i.val →
        let found := if s.room.stories[i].state = .filed ∨ s.room.stories[i].state = .settled then
            (firstOccurrence x.text true 0 s.room.stories[i].text).map fun n => (⟨i, s.room.stories[i].state, n⟩ : Hit)
          else none
        let hits := x.hits ++ found.toList
        (hits.length < 32 → i.val < x.last →
          exec .searchExamineSlot s = .next ({ s with room := { s.room with
            search := some { x with next := i.val + 1, hits := hits } } } : State).finish) ∧
        (∀ record : LongRecord, s.room.link.records = [record] → record.subject = .search →
          s.room.link.replies.length < 8 → s.room.link.waiting = [] →
          let ended (e : SearchEnd) : Answer := .next ({ s with room := { s.room with
            search := none
            link := { s.room.link with
              records := []
              replies := s.room.link.replies ++ [doneReply record.tag (.search hits e)] } } } : State).finish
          (32 ≤ hits.length → i.val < x.last → exec .searchExamineSlot s = ended (.more (i.val + 1))) ∧
          (x.last ≤ i.val → hits ≠ [] → exec .searchExamineSlot s = ended .complete) ∧
          (x.last ≤ i.val → hits = [] → exec .searchExamineSlot s = ended .notSatisfied)))) ∧
  (∀ (text cells : List Nat), text ≠ [] →
      let stands (n : Nat) : Prop := n + text.length ≤ cells.length ∧
        ((cells.drop n).take text.length).map upper = text ∧
        (n = 0 ∨ ∃ c, cells[n - 1]? = some c ∧ isBoundary c = true) ∧
        (n + text.length = cells.length ∨ ∃ c, cells[n + text.length]? = some c ∧ isBoundary c = true)
      (∀ n, firstOccurrence text true 0 cells = some n ↔ stands n ∧ ∀ m < n, ¬ stands m))

/-- RESET TRAFFIC with no long request running, taken by a part whose line senders with no character in progress have
no stop pending: every slot FREE, every block in the pool, every queue, counter and list of traffic empty, BROKEN alone
left in a condition set, each port whose set that changes posted, in the order of the numbers (the model's choice, log
entry 39), the search and the duplicate stack empty, no scan context left, and its DONE last in the reply queue. A
receive machine in HUNT or STORY is in HUNT with its timer started, one in BROKEN or OFF stays, and each matcher is
empty, its skip flag clear, against the marker set in force. A sender in service is QUIET, or BLOCKED under BROKEN,
with its staged settings applied and a pending refresh done; a decoder in service is at a safe point; a line out of
service keeps its staged values. A desk in service is IDLE; one that is within a character in another state keeps that
state to the character's end (the model's inference, log entry 13). The part's settings, every line's and desk's
settings, the service of every port and the clocks stay (R2, R15, R33, R82, R98, R117, R140, R141, R153, R182, R200).
The end of the character that RESET TRAFFIC found in progress: nothing more of the work is sent, be codes chosen to
follow or not. With a stop pending the port goes OUT; otherwise the sender is BLOCKED under BROKEN and else QUIET, told
for nothing eligible and no exchange asked for, its column kept and its staged settings in force. A marker's last
letter that the reset found in progress opens or closes nothing at the far end: the far-open count is 0 at the letter's
end (R56, R90, R140, R141, R142, R153). The tick the counter is moved up to is the model's choice (log entry 3). -/
def Obligations.ResetTrafficClears : Prop :=
  (∀ (tag : Octet) (s : State), Takes s → s.room.link.records = [] →
      (∀ l : Fin 16, s.room.lines[l].sender.txChar = none → s.room.lines[l].sender.stopPending = none) →
      ∃ u : State, exec (.resetTraffic tag) s = .next u.finish ∧ u.pending = s.pending ∧ u.time = s.time ∧
        u.part = s.part ∧
        u.room.link.replies = s.room.link.replies ++ [doneReply tag .none] ∧ u.room.link.resetting = none ∧
        u.room.link.notices = (all24.filter fun p =>
          s.room.ports[p].conditions != { Conditions.none with broken := s.room.ports[p].conditions.broken }).map .port ∧
        u.room.stories = Vector.replicate 256 Story.blank ∧ u.room.freeCount = 1024 ∧ u.room.pool = List.range 1024 ∧
        u.room.scans = Vector.replicate 256 none ∧ u.room.waitList = Vector.replicate 16 false ∧ u.room.settled = [] ∧ u.room.filedCount = 0 ∧
        u.room.stack = [] ∧ u.room.search = none ∧
        (∀ p : Fin 24, u.room.ports[p] = { s.room.ports[p] with
          counters := ⟨0, 0, 0, 0, 0, 0⟩
          queue := []
          conditions := { Conditions.none with broken := s.room.ports[p].conditions.broken } }) ∧
        (∀ l : Fin 16,
          let old := s.room.lines[l]
          let x := u.room.lines[l]
          x.settings = old.settings ∧ x.receiver = old.receiver ∧ x.decoder.case = .letters ∧
          x.decoder.returnSeen = false ∧ x.decoder.inLine = false ∧ x.decoder.blankLines = 0 ∧
          (s.room.ports[linePort l].inService = true →
            x.decoder.unshift = old.decoder.stagedUnshift.getD old.decoder.unshift ∧ x.decoder.stagedUnshift = none ∧
            x.decoder.side = if old.decoder.side.refresh then
                ⟨s.part.templates[old.decoder.side.source], old.decoder.side.source, none, false⟩
              else old.decoder.side) ∧
          (s.room.ports[linePort l].inService = false → x.decoder.unshift = old.decoder.unshift ∧
            x.decoder.stagedUnshift = old.decoder.stagedUnshift ∧ x.decoder.side = old.decoder.side) ∧
          x.assembler = {
            machine := if old.assembler.machine = .story then .hunt else old.assembler.machine
            window := [], markers := s.part.markers, skip := false, current := none, suspended := none
            timer := if old.assembler.machine = .hunt ∨ old.assembler.machine = .story then some s.time.ticks else none
            fifo := [] } ∧
          x.sender.activity = .idle ∧ x.sender.codes = [] ∧
          x.sender.current = none ∧ x.sender.case = .unknown ∧ x.sender.column = old.sender.column ∧
          x.sender.suspension = .empty ∧ x.sender.farOpen = 0 ∧ x.sender.restartVoid = false ∧
          x.sender.answerPending = false ∧ x.sender.identify.phase = .none ∧ x.sender.identify.tryNumber = 0 ∧
          x.sender.identify.collector = [] ∧
          (old.sender.machine = .out → x.sender.machine = .out ∧ x.sender.settings = old.sender.settings ∧
            x.sender.staged = old.sender.staged ∧ x.sender.side = old.sender.side) ∧
          x.sender.txChar = old.sender.txChar ∧
          (old.sender.machine ≠ .out → old.sender.txChar ≠ none →
            x.sender.halt = .reset ∧ x.sender.stopPending = old.sender.stopPending ∧
            x.sender.settings = old.sender.settings ∧ x.sender.staged = old.sender.staged ∧
            x.sender.side = old.sender.side ∧
            (old.sender.identify.phase = .none → old.sender.machine ≠ .identifying →
              x.sender.machine = old.sender.machine)) ∧
          (old.sender.machine ≠ .out → old.sender.txChar = none →
            x.sender.machine = (if s.room.ports[linePort l].conditions.broken then .blocked else .quiet) ∧
            x.sender.settings = old.sender.settings.apply old.sender.staged ∧ x.sender.staged = StagedSend.none ∧
            x.sender.side = if old.sender.side.refresh then
                ⟨s.part.templates[old.sender.side.source], old.sender.side.source, none, false⟩
              else old.sender.side)) ∧
        (∀ d : Fin 8,
          let old := s.room.desks[d]
          let x := u.room.desks[d]
          let within := old.txChar ≠ none ∧ old.state ≠ .idle ∧ old.state ≠ .out
          x.settings = old.settings ∧ x.current = none ∧ x.output = .none ∧ x.short = [] ∧ x.pause = false ∧
          x.buffer = [] ∧ x.composing = none ∧ x.stall = none ∧ x.txChar = old.txChar ∧ x.lineStart = old.lineStart ∧
          (old.state = .out → x.state = .out ∧ x.clearing = false) ∧
          (within → x.state = old.state ∧ x.clearing = true) ∧
          (old.state ≠ .out → ¬ within → x.state = .idle ∧ x.clearing = false))) ∧
  (∀ (l : Fin 16) (c : SendCode) (t : Nat) (s : State),
      let x := s.room.lines[l]
      let y := x.sender
      let p := s.room.ports[linePort l]
      let now := max s.time.ticks (t + x.settings.charTicks)
      let ends (u : State) : Prop := exec (.sendCharacterEnd l) s = .next u.finish ∧
        u.time = { s.time with ticks := now } ∧ u.part = s.part ∧ u.room.stories = s.room.stories ∧
        u.room.link = s.room.link ∧ (∀ m : Fin 16, m ≠ l → u.room.lines[m] = s.room.lines[m]) ∧
        u.room.lines[l].sender.txChar = none ∧ u.room.lines[l].sender.codes = [] ∧
        u.room.lines[l].sender.activity = .idle ∧ u.room.lines[l].sender.halt = .none ∧
        u.room.lines[l].sender.current = none ∧ u.room.lines[l].sender.column = y.column ∧
        u.room.lines[l].sender.staged = StagedSend.none ∧
        u.room.lines[l].sender.settings = y.settings.apply y.staged
      y.txChar = some (c, t) → y.halt = .reset →
      (y.stopPending ≠ none → ∃ u : State, ends u ∧ u.room.lines[l].sender.machine = .out ∧
        u.room.lines[l].sender.stopPending = none ∧
        u.room.ports = s.room.ports.set (linePort l) { p with inService := false }) ∧
      (y.stopPending = none → p.conditions.broken = true →
        ∃ u : State, ends u ∧ u.room.lines[l].sender.machine = .blocked ∧ u.room.ports = s.room.ports) ∧
      (y.stopPending = none → p.conditions.broken = false → y.identify.phase ≠ .pending → NoWork s (linePort l) →
        ∃ u : State, ends u ∧ u.room.lines[l].sender.machine = .quiet ∧ u.room.ports = s.room.ports)) ∧
  (∀ (tag : Octet) (l : Fin 16) (c : SendCode) (t : Nat) (m : Marker) (rest : List Nat) (next : Next) (s : State), Takes s →
      s.room.link.records = [] →
      (∀ k : Fin 16, s.room.lines[k].sender.txChar = none → s.room.lines[k].sender.stopPending = none) →
      let y := s.room.lines[l].sender
      y.machine ≠ .out → y.txChar = some (c, t) → y.activity = .marker m rest next →
      ∃ v u : State, exec (.resetTraffic tag) s = .next v ∧ exec (.sendCharacterEnd l) v = .next u ∧
        (let z := u.room.lines[l].sender;
        z.txChar = none ∧ z.activity = .idle ∧ z.current = none ∧ z.farOpen = 0 ∧ z.restartVoid = false ∧
        z.column = y.column ∧ z.machine = (if y.stopPending ≠ none then .out
          else if s.room.ports[linePort l].conditions.broken = true then .blocked else .quiet)))

/-- RESET FULL ends the running search and every exchange at its take, asked for by a request or not: each phase is NONE.
A sender that was IDENTIFYING is SENDING and sends nothing after its character; on an UNIDENTIFIED line one that was
STARTING or IDENTIFYING is BLOCKED (R165). The CUT of a search, carrying its next
slot, or of one line's exchange, carrying its tries and cells, joins the reply queue before the DONE, told for places free;
the reset is in execution and clear-to-send is off from the take on. Nothing else changes. A reset that waits with its last
reply goes on when that has a place: RESET FULL has then nothing left to queue (R98, R163, R165, R187, R200, R201). The state of
such a sender is the model's inference (log entries 12 and 13). -/
def Obligations.ResetFullIsTaken : Prop :=
  ∀ (tag : Octet) (s : State),
    let cut (l : Fin 16) : Line :=
      let x := s.room.lines[l]
      let ended := { x.sender.identify with phase := .none, request := false, timer := none, outcome := .none }
      if x.sender.identify.phase = .none then x
      else if s.room.ports[linePort l].conditions.unidentified = true ∧
          (x.sender.machine = .starting ∨ x.sender.machine = .identifying) then
        { x with sender := { x.sender with
          machine := .blocked, startTimer := none, answerPending := false, activity := .idle, codes := []
          identify := ended } }
      else { x with sender := { x.sender with
        machine := if x.sender.machine = .identifying then .sending else x.sender.machine
        activity := if x.sender.machine = .identifying then .idle else x.sender.activity
        codes := if x.sender.machine = .identifying then [] else x.sender.codes
        identify := ended } }
    let taken (lines : Vector Line 16) (replies : List Reply) : State := { s with room := { s.room with
      lines := lines
      search := none
      link := { s.room.link with
        records := []
        replies := s.room.link.replies ++ replies ++ [doneReply tag .none]
        resetting := some ⟨.full, []⟩ } } }
    (Takes s → s.room.link.records = [] →
      ∃ lines : Vector Line 16, (∀ l : Fin 16, lines[l] = cut l) ∧
        exec (.resetFull tag) s = .next (taken lines []).finish ∧
        (taken lines []).finish.room.link.clearToSend = false) ∧
    (Takes s → ∀ (x : Search) (t : Octet), s.room.search = some x → s.room.link.records = [⟨.search, t⟩] →
      s.room.link.replies.length ≤ 6 →
      ∃ lines : Vector Line 16, (∀ l : Fin 16, lines[l] = cut l) ∧
        exec (.resetFull tag) s = .next (taken lines [⟨t, .cut, none, .searchCut x.next⟩]).finish) ∧
    (Takes s → ∀ (l : Fin 16) (t : Octet), s.room.lines[l].sender.identify.phase ≠ .none →
      s.room.link.records = [⟨.line l, t⟩] → s.room.link.replies.length ≤ 6 →
      let i := s.room.lines[l].sender.identify
      ∃ lines : Vector Line 16, (∀ m : Fin 16, lines[m] = cut m) ∧
        exec (.resetFull tag) s = .next (taken lines [⟨t, .cut, none,
          if i.phase = .pending then .identifyCut 0 [] else .identifyCut i.tryNumber i.collector⟩]).finish) ∧
    (∀ reply : Reply, s.room.link.resetting = some ⟨.full, [reply]⟩ → s.room.link.replies.length < 8 →
      exec .resetExecutionResumes s = .next ({ s with room := { s.room with link := { s.room.link with
        replies := s.room.link.replies ++ [reply]
        resetting := some ⟨.full, []⟩ } } } : State).finish)

/-- What the link controller cannot take changes nothing: while it is not ready, while clear-to-send is off, and in
DISCARD, each request leaves the state as it is (the model's reading of R183 and R187, log entry 5). An event of a
line, a desk, the link or the timing base that cannot occur in the state it finds leaves the state as it is (the
model's choice, log entry 5). -/
def Obligations.CommandsWithNoEffect : Prop :=
  (∀ (c : Instr) (s : State), ((requestFrame c).isSome ∨ ∃ tag kind body, c = .badRequest tag kind body) → ¬ Takes s →
      exec c s = .next s) ∧
  (∀ (l : Fin 16) (d : Fin 8) (code : Fin 32) (c : Fin 128) (level : Level) (a b : Bool) (s : State),
      let x := s.room.lines[l]
      (s.time.settled = true → exec .timingBaseSettled s = .next s) ∧
      (x.receiver.state ≠ .framing → exec (.characterReceived l code level) s = .next s ∧
        exec (.falseStart l) s = .next s) ∧
      (x.receiver.state ≠ .waiting ∨ x.receiver.space = none → exec (.breakDetected l) s = .next s) ∧
      (x.receiver.state ≠ .broken ∨ x.receiver.mark = none → exec (.restore l) s = .next s) ∧
      (x.assembler.timer = none → exec (.inactivityExpiry l) s = .next s) ∧
      (x.sender.machine ≠ .starting ∨ x.sender.startTimer = none → exec (.startWaitEnd l) s = .next s) ∧
      (x.sender.machine ≠ .ready ∨ x.sender.idleTimer = none → exec (.motorIdleExpiry l) s = .next s) ∧
      (x.sender.txChar = none → exec (.sendCharacterEnd l) s = .next s) ∧
      (x.sender.identify.phase ≠ .collecting ∨ x.sender.identify.timer = none →
        exec (.identifyWindowExpiry l) s = .next s) ∧
      (s.room.desks[d].state = .out → exec (.deskCharacterReceived d c level) s = .next s) ∧
      (s.room.desks[d].txChar = none → exec (.deskCharacterSent d) s = .next s) ∧
      (s.room.desks[d].state ≠ .delivering ∨ s.room.desks[d].stall = none → exec (.stallExpiry d) s = .next s) ∧
      (s.room.link.rx ≠ .discard ∨ s.room.link.clearToSend = false → exec .discardQuietExit s = .next s) ∧
      (s.room.link.resetting = none → exec .resetExecutionResumes s = .next s ∧
        exec (.resetFullComplete a b) s = .next s))

/-- A delivered frame whose kind is none of 1 to 24, or is that of a request with no field or one field and a body of
another length, is refused BAD REQUEST; a RESET or PORT STOP whose selector or kind no request has is refused BAD
PARAMETER; nothing else changes (R184, R187, R194, R200). The numbers of those selectors and kinds, from 0 in the
order the rules name them, are the model's reading of R184 (log entry 6). -/
def Obligations.FramesThatAreNoRequest : Prop :=
  ∀ (tag kind : Octet) (body : List Octet) (s : State), Takes s →
    (kind = 0 ∨ 24 < kind.toNat → exec (.badRequest tag kind body) s = refused s tag .badRequest) ∧
    (kind = 11 → body ≠ [] → exec (.badRequest tag kind body) s = refused s tag .badRequest) ∧
    (kind ∈ ([2, 10, 13, 17, 18, 19, 20, 24] : List Octet) → body.length ≠ 1 →
      exec (.badRequest tag kind body) s = refused s tag .badRequest) ∧
    (kind ∈ ([3, 15, 23] : List Octet) → body.length ≠ 2 →
      exec (.badRequest tag kind body) s = refused s tag .badRequest) ∧
    (∀ p x : Octet, 1 < x.toNat → exec (.badRequest tag 3 [p, x]) s = refused s tag .badParameter) ∧
    (∀ x : Octet, 1 < x.toNat → exec (.badRequest tag 24 [x]) s = refused s tag .badParameter)

/-- A frame with a length byte outside 2–242, a whole frame whose sum is not 0 modulo 256, or one in which more than
10 ms passed between bytes is rejected: the receiver is in HUNT and the reject pending with the reason LENGTH, CHECK
or GAP; a reject already pending takes the new reason and counts on to 255, and a gap is told with clear-to-send on or
off. Nothing else changes (R185). A byte that arrives with clear-to-send off, the part ready and no RESET FULL in
execution, puts the frame receiver in DISCARD, its quiet time counted from now; outside DISCARD a frame begun with
0xE7 is rejected FLOW, and in DISCARD no byte adds a rejection. In DISCARD with clear-to-send on a byte moves the
quiet time alone. 10 ms after the last byte, with clear-to-send on, DISCARD ends in HUNT (R183, R185). That a gap is
rejected with clear-to-send off too is the model's choice (log entry 5), the ticks at which the gap and DISCARD end
are its choice (log entry 3), and its inference is that bytes begun otherwise than with 0xE7 belong to a frame already
rejected (log entry 24). -/
def Obligations.FramesRejected : Prop :=
   (∀ (s : State),
      let with_ (reason : RejectReason) (ticks : Nat) : Answer := .next ({ s with
        time := { s.time with ticks := ticks }
        room := { s.room with link := { s.room.link with
        rx := .hunt
        reject := match s.room.link.reject with
          | none => some ⟨reason, 1⟩
          | some j => some ⟨reason, min (j.count + 1) 255⟩ } } } : State).finish
      (Takes s →
        (∀ n : Octet, n.toNat < 2 ∨ 242 < n.toNat → exec (.frameRejected [0xE7, n]) s = with_ .length s.time.ticks) ∧
        (∀ (n : Octet) (rest : List Octet), 2 ≤ n.toNat → n.toNat ≤ 242 → rest.length = n.toNat + 1 →
          (n.toNat + (rest.map BitVec.toNat).sum) % 256 ≠ 0 →
          exec (.frameRejected (0xE7 :: n :: rest)) s = with_ .check s.time.ticks)) ∧
      (s.room.link.rx = .hunt ∨ s.room.link.rx = .frame →
        (∀ replies, s.room.link.resetting ≠ some ⟨.full, replies⟩) →
        exec (.frameGapTimeout [0xE7]) s = with_ .gap (s.time.ticks + 1001) ∧
        (∀ (n : Octet) (rest : List Octet), 2 ≤ n.toNat → n.toNat ≤ 242 → rest.length ≤ n.toNat →
          exec (.frameGapTimeout (0xE7 :: n :: rest)) s = with_ .gap (s.time.ticks + 1001)))) ∧
   (∀ (s : State),
      (s.room.link.ready = true → s.room.link.clearToSend = false → s.room.link.rx ≠ .idle →
        (∀ replies, s.room.link.resetting ≠ some ⟨.full, replies⟩) →
        (s.room.link.rx ≠ .discard → ∀ rest : List Octet,
          exec (.flowDiscard (0xE7 :: rest)) s = .next ({ s with room := { s.room with link := { s.room.link with
            rx := .discard
            quietFrom := s.time.ticks
            reject := match s.room.link.reject with
              | none => some ⟨.flow, 1⟩
              | some j => some ⟨.flow, min (j.count + 1) 255⟩ } } } : State).finish) ∧
        (∀ (b : Octet) (rest : List Octet), s.room.link.rx = .discard ∨ b ≠ 0xE7 →
          exec (.flowDiscard (b :: rest)) s = .next ({ s with room := { s.room with link := { s.room.link with
            rx := .discard
            quietFrom := s.time.ticks } } } : State).finish)) ∧
      (s.room.link.rx = .discard → s.room.link.clearToSend = true →
        ∀ (b : Octet) (rest : List Octet), exec (.flowDiscard (b :: rest)) s = .next ({ s with room := { s.room with
          link := { s.room.link with quietFrom := s.time.ticks } } } : State).finish) ∧
      (s.room.link.rx = .discard → s.room.link.clearToSend = true →
        exec .discardQuietExit s = .next ({ s with
          time := { s.time with ticks := max s.time.ticks (s.room.link.quietFrom + 1000) }
          room := { s.room with link := { s.room.link with rx := .hunt } } } : State).finish))

/-- A whole frame of the layout of R184 with a body of at most 240 bytes is accepted: its length byte is in 2–242, its
bytes after the start sum to 0 modulo 256, and the frame receiver has no reason to reject it (R184, R185). The
well-formed requests and the bodies of their frames: a request's frame has a body of at most 240 bytes, each below
256, and the body read back with its kind and tag is the request, every field at the value it had (R184, R186). Where
R184 leaves a field's bytes open they are the model's choice (log entry 6). -/
def Obligations.FramesBuiltAndReadBack : Prop :=
  (∀ (kind tag : Nat) (body : List Nat), body.length ≤ 240 →
      (frameBytes kind tag body).head? = some 0xE7 ∧
      (frameBytes kind tag body).length = body.length + 5 ∧
      ((frameBytes kind tag body).tail.sum) % 256 = 0 ∧
      rejection (frameBytes kind tag body) = none ∧ unfinished (frameBytes kind tag body) = false) ∧
  (∀ (c : Instr) (kind : Nat) (body : List Nat), wf c = true → requestFrame c = some (kind, body) →
      parseFrame kind (requestTag c) body = .request c ∧ body.length ≤ 240 ∧ ∀ b ∈ body, b < 256)

/-- What a free transmitter takes at the end of a frame: the oldest reply; with none and no RESET FULL in execution
the pending reject; with neither the first subject on the notice list, a story's with its record as it stands, its
notice-pending flag then clear and a FREE slot's kept fields cleared. The end of the READY frame makes the part ready
and puts the receiver in HUNT (R69, R187, R198, R199, R201). The oldest long reply that waits joins the tail of the
reply queue when that holds fewer than 8; the others wait on; nothing else changes (R188). The link's send pin carries
the bytes of the frame being sent, each as a start bit of space, eight data bits with the least significant first and
a stop bit of mark, and rests at mark; the straps give the rate (R183). Its bit times are not counted in ticks (the
model's choice, log entry 3). -/
def Obligations.TransmitterAndWaitingReplies : Prop :=
   (∀ (s : State) (sent : Frame), s.room.link.txFrame = some sent →
      let k := s.room.link
      let k' : Link := match sent with
        | .part _ => if k.ready then k else { k with ready := true, rx := .hunt }
        | _ => k
      let put (x : Link) : State := { s with room := { s.room with link := x } }
      (∀ (r : Reply) (rest : List Reply), k.replies = r :: rest →
        exec .frameSent s = .next (put { k' with replies := rest, txFrame := some (.reply r) })) ∧
      (k.replies = [] → (∀ l, k.resetting ≠ some ⟨.full, l⟩) →
        (∀ j, k.reject = some j →
          exec .frameSent s = .next (put { k' with reject := none, txFrame := some (.reject j) })) ∧
        (k.reject = none →
          (k.notices = [] → exec .frameSent s = .next (put { k' with txFrame := none })) ∧
          (∀ (p : Fin 24) (rest : List Notice), k.notices = .port p :: rest →
            exec .frameSent s = .next
              (put { k' with notices := rest, txFrame := some (.port p s.room.ports[p].conditions) })) ∧
          (∀ (rest : List Notice), k.notices = .part :: rest →
            exec .frameSent s = .next (put { k' with notices := rest, txFrame := some (.part s.time.clock) })) ∧
          (∀ (i : Fin 256) (kinds : StoryKinds) (rest : List Notice), k.notices = .story i kinds :: rest →
            exec .frameSent s = .next { s with room := { s.room with
              link := { k' with notices := rest, txFrame := some (.story i kinds s.room.stories[i]) }
              stories := s.room.stories.set i
                (if s.room.stories[i].state = .free then Story.blank
                  else { s.room.stories[i] with noticePending := false }) } }))) ∧
      (k.replies = [] → (∃ l, k.resetting = some ⟨.full, l⟩) →
        exec .frameSent s = .next (put { k' with txFrame := none }))) ∧
   (∀ (s : State) (record : LongRecord) (reply : Reply) (rest : List (LongRecord × Reply)),
      s.room.link.waiting = (record, reply) :: rest → s.room.link.replies.length < 8 →
      exec .longReplyQueued s = .next ({ s with room := { s.room with link := { s.room.link with
        waiting := rest
        replies := s.room.link.replies ++ [reply] } } } : State).finish) ∧
   (∀ k : Link,
      (k.txFrame = none → ∀ bit : Nat, k.sendPin bit = .mark) ∧
      (∀ f : Frame, k.txFrame = some f →
        (∀ j b : Nat, f.bytes[j]? = some b →
          k.sendPin (10 * j) = .space ∧
          (∀ bit : Fin 8, k.sendPin (10 * j + 1 + bit.val) = if b.testBit bit.val then .mark else .space) ∧
          k.sendPin (10 * j + 9) = .mark) ∧
        (∀ bit : Nat, 10 * f.bytes.length ≤ bit → k.sendPin bit = .mark)) ∧
      k.rate = (match k.strapFirst, k.strapSecond with
        | false, false => 9600
        | false, true => 19200
        | true, false => 38400
        | true, true => 76800))

/-! ## Invariants of every step -/

/-- The reply queue never comes to hold more than 8 replies: every step keeps it within them, whatever the command
(R187, R188, R200). -/
def Obligations.ReplyQueueHoldsAtMostEight : Prop :=
  ∀ s t : State, s.room.link.replies.length ≤ 8 → step s = .next t → t.room.link.replies.length ≤ 8

/-- What the rules say of the state at all times holds at reset: of the part's settings and clock (`Legal`), the
working copies and the marker sets in use (`CopiesLegal`), the matcher windows (`WindowsLegal`), the store
(`StoreLegal`), the queues (`QueuesLegal`), the deliveries (`DeliveriesLegal`), the notice subject list
(`NoticesLegal`) and the port counters (`CountersLegal`). -/
def Obligations.LegalAtReset : Prop :=
  Legal State.reset ∧ CopiesLegal State.reset ∧ WindowsLegal State.reset ∧ StoreLegal State.reset ∧ QueuesLegal State.reset ∧
    DeliveriesLegal State.reset ∧ NoticesLegal State.reset ∧ CountersLegal State.reset

/-- Every step keeps the rules on the part's settings and the wire clock: no template holds an entry at a function code
or a PRINT code outside 32–126, the five markers are of 2 to 6 upper-case letters and none starts another, keyword and
routing entries are as R88 and R99 allow, the lede window is within 15, the threshold within 256, and the clock within
86,399 seconds and 255 days. With them it keeps the same of each decoder's and sender's working copy and of the marker
set each assembler matches against, and with these that every matcher window holds letters alone and, folded, is a
proper prefix of an active marker (R1, R4, R8, R41, R42, R43, R45, R71, R81, R88, R90, R99). -/
def Obligations.EveryStepKeepsLegal : Prop :=
  ∀ s t : State, Legal s → step s = .next t →
    Legal t ∧ (CopiesLegal s → CopiesLegal t ∧ (WindowsLegal s → WindowsLegal t))

/-- Every step keeps the store: each of the 1,024 blocks is in the free pool or in exactly one chain, the free count is the
pool's, a FREE slot holds no block, the settled list holds SETTLED stories alone, and the current and suspended stories of a
line and the composing story of a desk are ASSEMBLING stories of its own, a line's two not the same (R38, R60, R61, R66,
R67, R70). -/
def Obligations.EveryStepKeepsTheStore : Prop :=
  ∀ s t : State, StoreLegal s → step s = .next t → StoreLegal t

/-- Every step keeps each port's queue: the port load is at most 32, and the entries stand in the order of their classes,
FLASH, URGENT, ORDINARY, DEFERRED (R104, R105). -/
def Obligations.EveryStepKeepsTheQueues : Prop :=
  ∀ s t : State, QueuesLegal s → step s = .next t → QueuesLegal t

/-- Every step that finds the store as `StoreLegal` says keeps the deliveries: a port holds no story twice among its queue
entries, its current delivery and its suspended story, each story it holds is FILED with the port in its pending set, a
pending set is empty in any state but FILED and the done and missed sets before filing, the three sets of a story are disjoint
and without its origin port, and the settled list names no story twice. In particular no queue holds an entry of an ASSEMBLING
story (R67, R70, R104). -/
def Obligations.EveryStepKeepsDeliveries : Prop :=
  ∀ s t : State, StoreLegal s → DeliveriesLegal s → step s = .next t → DeliveriesLegal t

/-- Every step keeps the notice subject list free of a subject that stands there twice (R198), and keeps every counter of
every port within 65,535 (R36, R44, R57, R124). -/
def Obligations.EveryStepKeepsNoticesAndCounters : Prop :=
  (∀ s t : State, NoticesLegal s → step s = .next t → NoticesLegal t) ∧
  (∀ s t : State, CountersLegal s → step s = .next t → CountersLegal t)

/-! ## Lines -/

/-- The transitions of a receive pin and a false start: in WAITING a mark-to-space transition is a start edge and
begins continuous space, in FRAMING it begins continuous space, in BROKEN it ends continuous mark; a space-to-mark
transition ends continuous space, or in BROKEN begins continuous mark; a false start, half an element after its edge,
is WAITING again. Nothing else changes (R19, R22, R24). The mark a false start shows on the pin is the model's choice
(log entry 20), and so is the tick the counter is moved up to (log entry 3). The function codes received outside an
exchange, 6.5 elements after their start edge: each counts one character, restarts the inactivity timer in HUNT and
STORY, and leaves the receiver WAITING. Blank does no more, the shifts set the receive case, and a carriage return
sets the return-seen flag within a text line. A line feed ends the text line in progress, or counts an empty line, the
first two of a run alone giving a line end: dropped in HUNT, where it clears the skip flag, and appended in STORY to a
text that is not empty; it is a safe point. A space in HUNT is a stray cell that begins a text line, behind an
inserted line end after a return; unshift-on-space then sets LETTERS. A character of space alone is not delivered.
Nothing else changes (R13, R20, R26, R27, R28, R29, R33, R44, R46, R53, R54). The pin and space time follow the sample
(the model's choice, log entry 20) and so do the ticks (log entry 3). That a space behind an inserted line end goes by
the unshift value that this safe point puts in force, and that the first cell of a text line takes the blank-line
count to 0, are the model's inferences (log entries 18 and 17). -/
def Obligations.PinEventsAndFunctionCodes : Prop :=
  (∀ (l : Fin 16) (s : State),
      let x := s.room.lines[l].receiver
      let now := s.time.ticks
      let put (y : Receiver) (due : Nat) : Answer := .next ({ s with
        time := { s.time with ticks := max now due }
        room := { s.room with lines := s.room.lines.set l { s.room.lines[l] with receiver := y } } } : State).finish
      (x.state = .off → exec (.markToSpaceTransition l) s = put { x with pin := .space } now ∧
        exec (.spaceToMarkTransition l) s = put { x with pin := .mark } now) ∧
      (x.state = .waiting →
        exec (.markToSpaceTransition l) s =
          put { x with state := .framing, pin := .space, edge := now, space := some now } now ∧
        exec (.spaceToMarkTransition l) s = put { x with pin := .mark, space := none } now) ∧
      (x.state = .framing →
        exec (.markToSpaceTransition l) s = put { x with pin := .space, space := some now } now ∧
        exec (.spaceToMarkTransition l) s = put { x with pin := .mark, space := none } now ∧
        exec (.falseStart l) s = put { x with state := .waiting, pin := .mark, space := none }
          (x.edge + unitTicks s.room.lines[l].settings.rate / 2)) ∧
      (x.state = .broken →
        exec (.markToSpaceTransition l) s = put { x with pin := .space, mark := none } now ∧
        exec (.spaceToMarkTransition l) s = put { x with pin := .mark, mark := some now } now)) ∧
  (∀ (l : Fin 16) (s : State),
      let x := s.room.lines[l]
      let now := max s.time.ticks (x.receiver.edge + 13 * unitTicks x.settings.rate / 2)
      let p := s.room.ports[linePort l]
      x.receiver.state = .framing →
      (x.sender.identify.collecting = false →
        let heard (d : Decoder) (a : Assembler) (strays : Nat) : State := { s with
          time := { s.time with ticks := now }
          room := { s.room with
            lines := s.room.lines.set l { x with
              receiver := { x.receiver with state := .waiting, pin := .mark, space := none }
              decoder := d
              assembler := a }
            ports := s.room.ports.set (linePort l) { p with counters := { p.counters with
              characters := min (p.counters.characters + 1) 65535, strays := strays } } } }
        let active : Assembler := if x.assembler.machine = .hunt ∨ x.assembler.machine = .story then
          { x.assembler with timer := some now } else x.assembler
        let got (d : Decoder) : Answer := .next (heard d active p.counters.strays).finish
        let safe (d : Decoder) : Decoder := { d with
          side := if d.side.refresh then ⟨s.part.templates[d.side.source], d.side.source, none, false⟩ else d.side
          unshift := d.stagedUnshift.getD d.unshift
          stagedUnshift := none }
        let spaced (d : Decoder) : Decoder :=
          { d with inLine := true, blankLines := 0, case := if d.unshift then .letters else d.case }
        exec (.characterReceived l 0 .mark) s = got x.decoder ∧
        exec (.characterReceived l 27 .mark) s = got { x.decoder with case := .figures } ∧
        exec (.characterReceived l 31 .mark) s = got { x.decoder with case := .letters } ∧
        exec (.characterReceived l 8 .mark) s =
          got { x.decoder with returnSeen := x.decoder.returnSeen || x.decoder.inLine } ∧
        (x.decoder.inLine = false → 2 ≤ x.decoder.blankLines → exec (.characterReceived l 2 .mark) s =
          got (safe { x.decoder with returnSeen := false })) ∧
        (∀ d : Decoder,
          ((x.decoder.inLine = true ∧ d = { x.decoder with returnSeen := false, inLine := false, blankLines := 0 }) ∨
            (x.decoder.inLine = false ∧ x.decoder.blankLines < 2 ∧
              d = { x.decoder with returnSeen := false, blankLines := x.decoder.blankLines + 1 })) →
          x.assembler.window = [] →
          (x.assembler.machine = .hunt → x.sender.identify.phase ≠ .awaiting →
            exec (.characterReceived l 2 .mark) s =
              .next (heard (safe d) { active with skip := false, markers := s.part.markers } p.counters.strays).finish) ∧
          (∀ i : Fin 256, x.assembler.machine = .story → x.assembler.current = some i → x.assembler.skip = false →
            x.assembler.fifo = [] → s.room.waitList[l] = false → s.room.stories[i].text ≠ [] →
            s.room.stories[i].text.length < 64 * s.room.stories[i].chain.length →
            s.room.stories[i].text.length < x.settings.maxLength →
            ∃ u : State, exec (.characterReceived l 2 .mark) s = .next u.finish ∧
              u.room.stories[i].text = s.room.stories[i].text ++ [10] ∧
              u.room.stories[i].textLines = s.room.stories[i].textLines + 1 ∧
              u.room.stories[i].chain = s.room.stories[i].chain ∧ u.room.lines[l].decoder = safe d ∧
              u.room.lines[l].assembler = { active with markers := s.part.markers } ∧
              u.room.ports = (heard (safe d) active p.counters.strays).room.ports ∧ u.part = s.part ∧
              (∀ j : Fin 256, j ≠ i → u.room.stories[j] = s.room.stories[j]) ∧ u.room.desks = s.room.desks ∧
              ∀ m : Fin 16, m ≠ l → u.room.lines[m] = s.room.lines[m])) ∧
        (x.assembler.machine = .hunt → x.assembler.window = [] → x.assembler.skip = false →
          x.sender.identify.phase ≠ .awaiting →
          (∀ m ∈ activeMarkers .hunt x.assembler.suspended.isSome, (x.assembler.markers.letters m).head? ≠ some 32) →
          (∀ m ∈ s.part.markers.list, m.head? ≠ some 32) →
          exec (.characterReceived l 4 .mark) s = .next (heard
            (spaced (if x.decoder.returnSeen then
                safe { x.decoder with returnSeen := false, inLine := false, blankLines := 0 } else x.decoder))
            { active with markers := s.part.markers } (min (p.counters.strays + 1) 65535)).finish)) ∧
      exec (.characterReceived l 0 .space) s = .next ({ s with
        time := { s.time with ticks := now }
        room := { s.room with lines := s.room.lines.set l { x with
          receiver := { x.receiver with
            state := .waiting, pin := .space
            space := if x.receiver.space = none then some now else x.receiver.space } } } } : State).finish)

/-- A table code whose entry in the receive case is PRINT, BELL or NONE, and a framing error of any five elements that
are not all space, a function code's too, received outside an exchange while no marker is being matched and none begins
with the cell: the cell, the printed character, a bell or a garble mark, goes to the end of the current story's text in
STORY, when its chain has room, and to the stray count in HUNT; a garble mark is counted at the port and in the record.
The text line is in progress and no other story changes (R20, R26, R30, R31, R43, R44, R53). The record's garble count
has no bound (the model's choice, log entry 40). A printed character received outside an exchange with letters held in
the matcher window: while the window, the character at its end, is the beginning of an active marker it is held, and
nothing joins a story or the stray count. Otherwise the oldest cells are released until the rest is such a beginning or
nothing is left: in HUNT they are strays, and in STORY they join the current story in order, told for a chain with room
and no keyword entry used. A cell that comes to a story at its maximum length closes it OVERLONG and is itself a stray:
the story is handed on as it stands, its suspended fellow left, and the line is in HUNT with its skip flag clear, told
for a line with nothing held whose story's ports are OUT (R43, R44, R53, R57, R102). Told for a window of letters
alone, as every step keeps it (`EveryStepKeepsLegal`). The tick the counter is moved up to is the model's choice (log
entry 3). -/
def Obligations.CellsReceived : Prop :=
  (∀ (l : Fin 16) (code : Fin 32) (stop : Level) (cell : Cell) (s : State),
      let x := s.room.lines[l]
      let p := s.room.ports[linePort l]
      x.receiver.state = .framing → x.sender.identify.collecting = false → x.decoder.returnSeen = false →
      x.assembler.window = [] → x.assembler.skip = false →
      let entry := (x.decoder.side.copy.half x.decoder.case)[code]
      ((stop = .mark ∧ isFunctionCode code.val = false ∧
          ((entry = some (.print cell) ∧ 32 ≤ cell ∧ cell ≤ 126) ∨ (entry = some .bell ∧ cell = 7) ∨
            (entry = some .nothing ∧ cell = 128))) ∨
        (stop = .space ∧ code ≠ 0 ∧ cell = 128)) →
      (∀ m ∈ activeMarkers x.assembler.machine x.assembler.suspended.isSome,
        (x.assembler.markers.letters m).head? ≠ some (upper cell)) →
      ((∀ i : Fin 256, x.assembler.machine = .story → x.assembler.current = some i → x.assembler.fifo = [] →
        s.room.waitList[l] = false → s.room.stories[i].text.length < 64 * s.room.stories[i].chain.length →
        s.room.stories[i].text.length < x.settings.maxLength →
        ∃ u : State, exec (.characterReceived l code stop) s = .next u.finish ∧
          u.room.stories[i].text = s.room.stories[i].text ++ [cell] ∧
          u.room.stories[i].textLines = s.room.stories[i].textLines ∧
          u.room.stories[i].garbles = s.room.stories[i].garbles + (if cell = 128 then 1 else 0) ∧
          u.room.stories[i].chain = s.room.stories[i].chain ∧ u.room.stories[i].state = s.room.stories[i].state ∧
          (∀ j : Fin 256, j ≠ i → u.room.stories[j] = s.room.stories[j]) ∧
          u.room.ports = s.room.ports.set (linePort l) { p with counters := { p.counters with
            characters := min (p.counters.characters + 1) 65535
            garbles := if cell = 128 then min (p.counters.garbles + 1) 65535 else p.counters.garbles } } ∧
          u.room.lines[l].decoder.inLine = true ∧ u.room.lines[l].assembler.window = [] ∧
          u.room.lines[l].assembler.current = some i ∧ u.part = s.part ∧ u.room.link = s.room.link ∧
          (∀ m : Fin 16, m ≠ l → u.room.lines[m] = s.room.lines[m]) ∧ u.room.desks = s.room.desks) ∧
      (x.assembler.machine = .hunt → x.sender.identify.phase ≠ .awaiting →
        ∃ u : State, exec (.characterReceived l code stop) s = .next u.finish ∧
          u.room.ports = s.room.ports.set (linePort l) { p with counters := { p.counters with
            characters := min (p.counters.characters + 1) 65535
            garbles := if cell = 128 then min (p.counters.garbles + 1) 65535 else p.counters.garbles
            strays := min (p.counters.strays + 1) 65535 } } ∧
          u.room.lines[l].decoder.inLine = true ∧ u.room.lines[l].assembler.window = [] ∧
          u.room.stories = s.room.stories ∧ u.part = s.part ∧ u.room.link = s.room.link ∧
          (∀ m : Fin 16, m ≠ l → u.room.lines[m] = s.room.lines[m]) ∧ u.room.desks = s.room.desks))) ∧
  (∀ (l : Fin 16) (code : Fin 32) (c : Cell) (s : State),
      let x := s.room.lines[l]
      let a := x.assembler
      let p := s.room.ports[linePort l]
      let now := max s.time.ticks (x.receiver.edge + 13 * unitTicks x.settings.rate / 2)
      let counted : Counters := { p.counters with characters := min (p.counters.characters + 1) 65535 }
      let active := activeMarkers a.machine a.suspended.isSome
      x.receiver.state = .framing → isFunctionCode code.val = false → x.sender.identify.phase = .none →
      x.decoder.returnSeen = false → (x.decoder.side.copy.half x.decoder.case)[code] = some (.print c) →
      32 ≤ c → c ≤ 126 → a.skip = false → (∀ y ∈ a.window, windowLetter y) → countersLegal p.counters →
      let heard (u : State) : Prop := exec (.characterReceived l code .mark) s = .next u.finish ∧
        u.time = { s.time with ticks := now } ∧ u.part = s.part ∧ u.room.lines[l].sender = x.sender ∧
        u.room.lines[l].assembler.timer = some now ∧ u.room.lines[l].decoder.inLine = true ∧
        (∀ m : Fin 16, m ≠ l → u.room.lines[m] = s.room.lines[m]) ∧ u.room.desks = s.room.desks
      (∀ out keep : List Cell, a.window ++ [c] = out ++ keep →
        (∀ n : Nat, n < out.length → ∀ m ∈ active,
          ¬ ((a.window ++ [c]).drop n).map upper <+: a.markers.letters m) →
        (∀ m ∈ active, keep.map upper ≠ a.markers.letters m) →
        keep = [] ∨ (∃ m ∈ active, keep.map upper <+: a.markers.letters m) →
        let left (u : State) : Prop := heard u ∧ u.room.link = s.room.link ∧
          u.room.lines[l].assembler = { a with
            window := keep, timer := some now, markers := if keep = [] then s.part.markers else a.markers }
        (a.machine = .hunt →
          ∃ u : State, left u ∧ u.room.stories = s.room.stories ∧ u.room.ports = s.room.ports.set (linePort l)
            { p with counters := { counted with strays := min (p.counters.strays + out.length) 65535 } }) ∧
        (∀ i : Fin 256, a.machine = .story → a.current = some i → a.fifo = [] → s.room.waitList[l] = false →
          s.part.keywords = Vector.replicate 24 none →
          s.room.stories[i].text.length + out.length ≤ 64 * s.room.stories[i].chain.length →
          s.room.stories[i].text.length + out.length ≤ x.settings.maxLength →
          ∃ u : State, left u ∧ u.room.stories = s.room.stories.set i { s.room.stories[i] with
            text := s.room.stories[i].text ++ out } ∧
            u.room.ports = s.room.ports.set (linePort l) { p with counters := counted })) ∧
      (∀ i : Fin 256, a.machine = .story → a.current = some i → a.window = [] → a.fifo = [] →
        s.room.waitList[l] = false → p.conditions.waiting = false →
        (∀ m ∈ active, (a.markers.letters m).head? ≠ some (upper c)) →
        x.settings.maxLength ≤ s.room.stories[i].text.length → s.room.stories[i].text ≠ [] → PlainStory s l i →
        s.room.stories[i].overruns ≤ 65535 → NotDuplicate s l s.room.stories[i].text →
        AllOut s ((s.part.route (parseHeader s.room.stories[i].text)).set (linePort l) false) →
        ∃ u : State, heard u ∧
          HandedOn s u l i s.room.stories[i].text s.room.stories[i].textLines .overlong ∧
          u.room.lines[l].assembler = { a with
            machine := .hunt, current := none, timer := some now, markers := s.part.markers } ∧
          u.room.ports[linePort l] = { p with counters := { counted with
            assembled := min (p.counters.assembled + 1) 65535, strays := min (p.counters.strays + 1) 65535 } } ∧
          (∀ q : Fin 24, q ≠ linePort l →
            u.room.ports[q] = { s.room.ports[q] with queue := u.room.ports[q].queue }) ∧
          ∀ j : Fin 256, j ≠ i → u.room.stories[j] = s.room.stories[j]))

/-- The last letter of an active marker is received on a line outside an exchange, with the letters before it in the
matcher window: the marker is consumed, the window is empty and the skip flag set, and no letter of it joins a story
or the stray count. OPEN in HUNT opens a story in the lowest slot that is FREE with no notice pending, DIRECTORY FULL
gone; with no such slot it joins the condition set. In STORY it first closes the current story, UNTERMINATED, told for
an empty one. CLOSE of an empty story discards it EMPTY; CLOSE of an unheaded story that is within a line and routed
nowhere appends the line end, counts the story as assembled and files and settles it. BREAK makes the current story
the suspended one, the cells of the holding FIFO dropped as overruns. RESUME makes it current again, with a line end
appended when it is not at a line start and its chain has room. VOID discards the current story, or in HUNT the
suspended one, VOIDED, its blocks in the pool. No other story and no other line changes (R35, R46, R47, R49, R50, R51,
R52; the tick the counter is moved up to is log entry 3). -/
def Obligations.MarkersTakeEffect : Prop :=
  ∀ (l : Fin 16) (code : Fin 32) (c : Cell) (m : Marker) (s : State),
    let x := s.room.lines[l]
    let a := x.assembler
    let p := s.room.ports[linePort l]
    let now := max s.time.ticks (x.receiver.edge + 13 * unitTicks x.settings.rate / 2)
    let r := exec (.characterReceived l code .mark) s
    let counted : Counters := { p.counters with characters := min (p.counters.characters + 1) 65535 }
    x.receiver.state = .framing → isFunctionCode code.val = false → x.sender.identify.phase = .none →
    x.decoder.returnSeen = false → (x.decoder.side.copy.half x.decoder.case)[code] = some (.print c) →
    32 ≤ c → c ≤ 126 →
    a.skip = false → (∀ y ∈ a.window, y ≠ 10) →
    m ∈ activeMarkers a.machine a.suspended.isSome → (a.window ++ [c]).map upper = a.markers.letters m →
    (∀ n ∈ activeMarkers a.machine a.suspended.isSome, n ≠ m → a.markers.letters n ≠ a.markers.letters m) →
    let framed (u : State) : Prop := r = .next u.finish ∧ u.time.ticks = now ∧ u.part = s.part ∧
      u.room.lines[l].assembler.window = [] ∧ u.room.lines[l].assembler.skip = true ∧
      u.room.lines[l].assembler.markers = s.part.markers ∧ u.room.lines[l].assembler.timer = some now ∧
      u.room.lines[l].sender = x.sender ∧ (∀ k : Fin 16, k ≠ l → u.room.lines[k] = s.room.lines[k]) ∧
      u.room.desks = s.room.desks ∧ (∀ q : Fin 24, q ≠ linePort l → u.room.ports[q] = s.room.ports[q])
    (m = .opn → a.machine = .hunt → a.current = none →
      (∀ i : Fin 256, s.room.stories[i].state = .free → s.room.stories[i].noticePending = false →
        (∀ j : Fin 256, j < i → s.room.stories[j].state ≠ .free ∨ s.room.stories[j].noticePending = true) →
        ∃ u : State, framed u ∧ u.room.lines[l].assembler.machine = .story ∧
          u.room.lines[l].assembler.current = some i ∧ u.room.lines[l].assembler.suspended = a.suspended ∧
          u.room.stories = s.room.stories.set i { Story.blank with
            state := .assembling, origin := some (.line l), opened := some s.time.clock
            limit := x.settings.maxLength } ∧
          u.room.scans = s.room.scans.set i (some ⟨s.part.lede, true, 0, []⟩) ∧
          u.room.ports[linePort l] =
            { p with counters := counted, conditions := { p.conditions with directoryFull := false } }) ∧
      ((∀ j : Fin 256, s.room.stories[j].state ≠ .free ∨ s.room.stories[j].noticePending = true) →
        ∃ u : State, framed u ∧ u.room.lines[l].assembler.machine = .hunt ∧
          u.room.lines[l].assembler.current = a.current ∧ u.room.stories = s.room.stories ∧
          u.room.ports[linePort l] =
            { p with counters := counted, conditions := { p.conditions with directoryFull := true } })) ∧
    (∀ i j : Fin 256, m = .opn → a.machine = .story → a.current = some j → a.fifo = [] → s.room.waitList[l] = false →
      p.conditions.waiting = false → countersLegal p.counters → s.room.stories[j].text = [] →
      s.room.stories[j].chain = [] → s.room.stories[j].state = .assembling → s.room.stories[i].state = .free →
      s.room.stories[i].noticePending = false →
      (∀ k : Fin 256, k < i → s.room.stories[k].state ≠ .free ∨ s.room.stories[k].noticePending = true) →
      ∃ u : State, framed u ∧ u.room.lines[l].assembler.machine = .story ∧
        u.room.lines[l].assembler.current = some i ∧ u.room.lines[l].assembler.suspended = a.suspended ∧
        u.room.stories[j].state = .free ∧ u.room.stories[j].cause = some .unterminated ∧
        u.room.stories[j].reason = some .empty ∧ u.room.stories[i] = { Story.blank with
          state := .assembling, origin := some (.line l), opened := some s.time.clock
          limit := x.settings.maxLength } ∧
        u.room.link.notices = (if p.conditions.directoryFull = false ∨
            Notice.port (linePort l) ∈ s.room.link.notices then
          postStoryList j StoryKinds.ofDiscarded s.room.link.notices
          else postStoryList j StoryKinds.ofDiscarded s.room.link.notices ++ [.port (linePort l)]) ∧
        ∀ k : Fin 256, k ≠ i → k ≠ j → u.room.stories[k] = s.room.stories[k]) ∧
    (∀ i : Fin 256, m = .cls → a.machine = .story → a.current = some i → a.fifo = [] → s.room.waitList[l] = false →
      p.conditions.waiting = false → countersLegal p.counters → s.room.stories[i].overruns ≤ 65535 →
      (s.room.stories[i].text = [] → s.room.stories[i].chain = [] →
        ∃ u : State, framed u ∧ u.room.lines[l].assembler.machine = .hunt ∧
          u.room.lines[l].assembler.current = none ∧ u.room.lines[l].assembler.suspended = a.suspended ∧
          u.room.stories[i].state = .free ∧ u.room.stories[i].reason = some .empty ∧
          u.room.stories[i].cause = some .closed ∧
          u.room.link.notices = postStoryList i StoryKinds.ofDiscarded s.room.link.notices ∧
          u.room.ports[linePort l] = { p with counters := counted } ∧
          ∀ j : Fin 256, j ≠ i → u.room.stories[j] = s.room.stories[j]) ∧
      (s.room.stories[i].text ≠ [] → s.room.stories[i].text.getLast? ≠ some 10 →
        s.room.stories[i].text.length < 64 * s.room.stories[i].chain.length →
        s.room.stories[i].text.length < x.settings.maxLength →
        parseHeader (s.room.stories[i].text ++ [10]) = none → s.room.stories[i].keywords = emptySet →
        s.part.keywords = Vector.replicate 24 none → s.part.defaultSet = emptySet →
        s.room.stories[i].origin = some (.line l) → s.room.stories[i].pendingSet = emptySet →
        s.part.threshold ≤ s.room.freeCount →
        ∃ u : State, framed u ∧ u.room.lines[l].assembler.machine = .hunt ∧
          u.room.lines[l].assembler.current = none ∧ u.room.lines[l].assembler.suspended = a.suspended ∧
          u.room.stories = s.room.stories.set i { s.room.stories[i] with
            text := s.room.stories[i].text ++ [10], textLines := s.room.stories[i].textLines + 1
            cause := some .closed, closed := true, header := none, effective := .ordinary
            state := .settled, filed := some s.time.clock, noticePending := true } ∧
          u.room.settled = s.room.settled ++ [i] ∧ u.room.filedCount = min (s.room.filedCount + 1) 65535 ∧
          u.room.link.notices =
            postStoryList i StoryKinds.ofSettled (postStoryList i StoryKinds.ofFiled s.room.link.notices) ∧
          u.room.ports[linePort l] =
            { p with counters := { counted with assembled := min (p.counters.assembled + 1) 65535 } })) ∧
    (∀ i : Fin 256, m = .brk → a.machine = .story → a.current = some i →
      ∃ u : State, framed u ∧ u.room.lines[l].assembler.machine = .hunt ∧
        u.room.lines[l].assembler.current = none ∧ u.room.lines[l].assembler.suspended = some i ∧
        u.room.lines[l].assembler.fifo = [] ∧ u.room.waitList = s.room.waitList.set l false ∧
        u.room.stories = s.room.stories.set i { s.room.stories[i] with
          overruns := min (s.room.stories[i].overruns + a.fifo.length) 65535 } ∧
        u.room.ports[linePort l] = { p with
          counters := { counted with overruns := min (p.counters.overruns + a.fifo.length) 65535 }
          conditions := { p.conditions with waiting := false } }) ∧
    (∀ i : Fin 256, m = .res → a.machine = .hunt → a.suspended = some i → a.fifo = [] →
      (s.room.stories[i].text = [] ∨ s.room.stories[i].text.getLast? = some 10 →
        ∃ u : State, framed u ∧ u.room.lines[l].assembler.machine = .story ∧
          u.room.lines[l].assembler.current = some i ∧ u.room.lines[l].assembler.suspended = none ∧
          u.room.stories = s.room.stories ∧ u.room.ports[linePort l] = { p with counters := counted }) ∧
      (s.room.stories[i].text ≠ [] → s.room.stories[i].text.getLast? ≠ some 10 → s.room.waitList[l] = false →
        s.room.stories[i].text.length < 64 * s.room.stories[i].chain.length →
        s.room.stories[i].text.length < x.settings.maxLength → s.part.keywords = Vector.replicate 24 none →
        ∃ u : State, framed u ∧ u.room.lines[l].assembler.machine = .story ∧
          u.room.lines[l].assembler.current = some i ∧ u.room.lines[l].assembler.suspended = none ∧
          u.room.stories = s.room.stories.set i { s.room.stories[i] with
            text := s.room.stories[i].text ++ [10], textLines := s.room.stories[i].textLines + 1 } ∧
          u.room.ports[linePort l] = { p with counters := counted })) ∧
    (∀ i : Fin 256, m = .vd → s.room.waitList = Vector.replicate 16 false → p.conditions.waiting = false →
      (a.machine = .story → a.current = some i →
        ∃ u : State, framed u ∧ u.room.lines[l].assembler.machine = .hunt ∧
          u.room.lines[l].assembler.current = none ∧ u.room.lines[l].assembler.suspended = a.suspended ∧
          u.room.stories[i].state = .free ∧ u.room.stories[i].reason = some .voided ∧
          u.room.stories[i].chain = [] ∧ u.room.pool = s.room.pool ++ s.room.stories[i].chain ∧
          u.room.link.notices = postStoryList i StoryKinds.ofDiscarded s.room.link.notices ∧
          u.room.ports[linePort l] = { p with counters := counted } ∧
          ∀ j : Fin 256, j ≠ i → u.room.stories[j] = s.room.stories[j]) ∧
      (a.machine = .hunt → a.suspended = some i →
        ∃ u : State, framed u ∧ u.room.lines[l].assembler.machine = .hunt ∧
          u.room.lines[l].assembler.current = a.current ∧ u.room.lines[l].assembler.suspended = none ∧
          u.room.stories[i].state = .free ∧ u.room.stories[i].reason = some .voided ∧
          u.room.stories[i].chain = [] ∧ u.room.pool = s.room.pool ++ s.room.stories[i].chain ∧
          u.room.link.notices = postStoryList i StoryKinds.ofDiscarded s.room.link.notices ∧
          u.room.ports[linePort l] = { p with counters := counted } ∧
          ∀ j : Fin 256, j ≠ i → u.room.stories[j] = s.room.stories[j]))

/-- A cell bound for a story's text. Where the chain has no room for it and the pool yields a block, the chain takes one
block of the pool and the cell is written. With the pool empty the port joins the wait list and the cell enters the holding
FIFO; while the port waits further cells enter it up to 8, and one that finds 8 is dropped and counted as an overrun of the
story and the port. A freed block goes to the pool when no port waits, and otherwise to the waiting port with the lowest
number: it joins the chain of that port's story, the FIFO is written into it and empties, and the port leaves the wait list,
WAITING FOR STORE gone. A STORY RELEASE while one port waits grants it the first block of the released chain and returns
the others to the pool (R34, R35, R63, R64). Told with the free count at the threshold or above and, where cells are
written, no keyword entry used. -/
def Obligations.HoldingFifoAndGrants : Prop :=
  (∀ (k : Ctx) (l : Fin 16) (i : Fin 256) (c : Cell) (r : Room), c ≠ 10 → c ≠ 128 →
    k.part.keywords = Vector.replicate 24 none →
    let x := r.stories[i]
    let a := r.lines[l].assembler
    let p := r.ports[linePort l]
    let held := r.lines.set l { r.lines[l] with assembler := { a with fifo := a.fifo ++ [c] } }
    (r.waitList[l] = false → 64 * x.chain.length ≤ x.text.length →
      (0 < r.freeCount → r.freeCount = r.pool.length → k.part.threshold < r.freeCount →
        ∃ (b : Nat) (before after : List Nat), r.pool = before ++ b :: after ∧
          (r.holdOrWrite k l i c).pool = before ++ after ∧
          (r.holdOrWrite k l i c).freeCount = r.freeCount - 1 ∧
          (r.holdOrWrite k l i c).stories =
            r.stories.set i { x with text := x.text ++ [c], chain := x.chain ++ [b] } ∧
          (r.holdOrWrite k l i c).lines = r.lines ∧ (r.holdOrWrite k l i c).ports = r.ports ∧
          (r.holdOrWrite k l i c).waitList = r.waitList) ∧
      (r.freeCount = 0 →
        (r.holdOrWrite k l i c).lines = held ∧ (r.holdOrWrite k l i c).waitList = r.waitList.set l true ∧
        (r.holdOrWrite k l i c).ports =
          r.ports.set (linePort l) { p with conditions := { p.conditions with waiting := true } } ∧
        (r.holdOrWrite k l i c).stories = r.stories ∧
        (p.conditions.waiting = false → Notice.port (linePort l) ∈ (r.holdOrWrite k l i c).link.notices))) ∧
    (r.waitList[l] = true →
      (a.fifo.length < 8 → r.holdOrWrite k l i c = { r with lines := held }) ∧
      (8 ≤ a.fifo.length → r.holdOrWrite k l i c = { r with
        stories := r.stories.set i { x with overruns := min (x.overruns + 1) 65535 }
        ports := r.ports.set (linePort l)
          { p with counters := { p.counters with overruns := min (p.counters.overruns + 1) 65535 } } }))) ∧
  (∀ (k : Ctx) (b : Nat) (r : Room), k.part.threshold ≤ r.freeCount →
    (r.waitList = Vector.replicate 16 false →
      r.freeBlocks k [b] = { r with pool := r.pool ++ [b], freeCount := r.freeCount + 1 }) ∧
    (∀ (l : Fin 16) (i : Fin 256), r.waitList[l] = true → (∀ j : Fin 16, j < l → r.waitList[j] = false) →
      r.lines[l].assembler.current = some i → k.part.keywords = Vector.replicate 24 none →
      let x := r.stories[i]
      let a := r.lines[l].assembler
      let p := r.ports[linePort l]
      (r.freeBlocks k [b]).stories = r.stories.set i { x with
        chain := x.chain ++ [b], text := x.text ++ a.fifo, textLines := x.textLines + a.fifo.count 10 } ∧
      (r.freeBlocks k [b]).lines = r.lines.set l { r.lines[l] with assembler := { a with fifo := [] } } ∧
      (r.freeBlocks k [b]).waitList = r.waitList.set l false ∧
      (r.freeBlocks k [b]).ports =
        r.ports.set (linePort l) { p with conditions := { p.conditions with waiting := false } } ∧
      (r.freeBlocks k [b]).pool = r.pool ∧ (r.freeBlocks k [b]).freeCount = r.freeCount)) ∧
  (∀ (tag : Octet) (i j : Fin 256) (l : Fin 16) (b : Nat) (rest : List Nat) (s : State), Takes s →
    s.room.stories[i].state = .settled → s.room.stories[i].held = false → s.room.stories[i].chain = b :: rest →
    s.room.waitList = (Vector.replicate 16 false).set l true → s.room.lines[l].assembler.current = some j → j ≠ i →
    s.part.threshold ≤ s.room.freeCount →
    ∃ u : State, exec (.storyRelease tag i.val) s = .next u.finish ∧ u.room.stories[i].state = .free ∧
      u.room.stories[i].reason = some .released ∧ u.room.stories[j].chain = s.room.stories[j].chain ++ [b] ∧
      u.room.stories[j].text = s.room.stories[j].text ++ s.room.lines[l].assembler.fifo ∧
      u.room.lines[l].assembler.fifo = [] ∧ u.room.waitList = Vector.replicate 16 false ∧
      u.room.pool = s.room.pool ++ rest ∧ u.room.freeCount = s.room.freeCount + rest.length ∧
      ∀ n : Fin 256, n ≠ i → n ≠ j → u.room.stories[n] = s.room.stories[n])

/-- The inactivity timer expires. In HUNT with no story suspended the held cells become strays, the skip flag is clear
and the timer stops. In STORY with a story that is empty so far, nothing held and no exchange awaiting, the story is
discarded EMPTY, its slot FREE and posted DISCARDED, and the assembler is in HUNT with the timer started again. In
STORY with a story that has text, held cells or both, the held cells join the text and the story is closed TIMED OUT
and filed, the cells of a FIFO that waits for the store dropped as overruns; the assembler is in HUNT, a suspended
story left as it was, and the timer starts again. In HUNT with a story suspended the held cells become strays and the
suspended story is closed UNTERMINATED, filed when it has text and discarded EMPTY when not, and the timer stops (R35,
R54, R57, R102). Filing is told for ports that are OUT and a story that is no duplicate, with no keyword entry used.
Told for port counters within 65,535 and, in STORY, a window of letters alone, which every step keeps
(`EveryStepKeepsNoticesAndCounters`, `EveryStepKeepsLegal`); the tick the counter is moved up to is the model's choice
(log entry 3). -/
def Obligations.InactivityExpires : Prop :=
  ∀ (l : Fin 16) (t : Nat) (s : State),
    let x := s.room.lines[l]
    let p := s.room.ports[linePort l]
    let now := max s.time.ticks (t + x.settings.inactivity * 100000)
    x.assembler.timer = some t → x.sender.identify.phase ≠ .awaiting → countersLegal p.counters →
    (x.assembler.machine = .hunt → x.assembler.suspended = none → (∀ c ∈ x.assembler.window, c ≠ 10) →
      exec (.inactivityExpiry l) s = .next ({ s with
        time := { s.time with ticks := now }
        room := { s.room with
          lines := s.room.lines.set l { x with assembler := { x.assembler with
            window := [], skip := false, timer := none, markers := s.part.markers } }
          ports := s.room.ports.set (linePort l) { p with counters := { p.counters with
            strays := min (p.counters.strays + x.assembler.window.length) 65535 } } } } : State).finish) ∧
    (∀ i : Fin 256, x.assembler.machine = .story → x.assembler.current = some i → x.assembler.window = [] →
      x.assembler.fifo = [] → s.room.waitList[l] = false → p.conditions.waiting = false →
      s.room.stories[i].text = [] → s.room.stories[i].chain = [] →
      ∃ u : State, exec (.inactivityExpiry l) s = .next u.finish ∧ u.time.ticks = now ∧
        u.room.stories[i].state = .free ∧ u.room.stories[i].reason = some .empty ∧
        u.room.stories[i].cause = some .timedOut ∧
        u.room.link.notices = postStoryList i StoryKinds.ofDiscarded s.room.link.notices ∧
        u.room.lines[l].assembler.machine = .hunt ∧ u.room.lines[l].assembler.current = none ∧
        u.room.lines[l].assembler.suspended = x.assembler.suspended ∧
        u.room.lines[l].assembler.timer = some now ∧ u.room.lines[l].assembler.skip = false ∧
        (∀ j : Fin 256, j ≠ i → u.room.stories[j] = s.room.stories[j]) ∧
        u.room.ports = s.room.ports ∧ u.room.desks = s.room.desks) ∧
    (let after (w : State) (a : Assembler) : Answer := .next ({ w with
        time := { s.time with ticks := now }
        room := { w.room with lines := s.room.lines.set l { x with assembler := { a with
          window := [], skip := false, markers := s.part.markers } } } } : State).finish;
      (∀ i : Fin 256, x.assembler.machine = .story → x.assembler.current = some i → ReleasesTo s l i →
        ClosesPlainly s l i (s.room.stories[i].text ++ x.assembler.window) →
        ∃ w : State, ClosedWhole (released s l i) w l i .timedOut ∧ exec (.inactivityExpiry l) s =
          after w { x.assembler with machine := .hunt, current := none, fifo := [], timer := some now }) ∧
      (∀ i : Fin 256, x.assembler.machine = .hunt → x.assembler.suspended = some i →
        (∀ c ∈ x.assembler.window, c ≠ 10) →
        (ClosesPlainly s l i s.room.stories[i].text →
          ∃ w : State, ClosedWhole (strayed s l) w l i .unterminated ∧ exec (.inactivityExpiry l) s =
            after w { x.assembler with suspended := none, timer := none }) ∧
        (s.room.stories[i].text = [] → s.room.stories[i].chain = [] →
          exec (.inactivityExpiry l) s = after
            { strayed s l with room := { (strayed s l).room with
              stories := s.room.stories.set i { s.room.stories[i] with
                state := .free, held := false, text := [], textLines := 0, limit := 0, chain := [], closed := false
                cause := some .unterminated, reason := some .empty, noticePending := true, begun := false
                pendingSet := emptySet, doneSet := emptySet, missedSet := emptySet }
              scans := s.room.scans.set i none
              settled := s.room.settled.filter fun j => j != i
              link := { s.room.link with
                notices := postStoryList i StoryKinds.ofDiscarded s.room.link.notices } } }
            { x.assembler with suspended := none, timer := none })))

/-- Break after 3C of continuous space, and restore after 10C of continuous mark on a line whose assembler holds no
story and no cells: BROKEN joins or leaves the condition set, the decoder and the assembler are as R23, R24 and R55
say, a RECEIVE line's sender is untouched, and a BOTH line's sender at rest goes from QUIET to BLOCKED in case UNKNOWN,
and at restore back to QUIET when not UNIDENTIFIED and with no work at hand. A break on a line whose assembler holds
stories or cells releases the cells, to the current story in STORY and to the stray count in HUNT, drops those of a
FIFO that waits for the store as overruns, and closes the current and then the suspended story TRUNCATED, each filed
whole; the assembler is BROKEN with no story, its window empty, its skip flag clear and its timer stopped. Filing is
told for ports that are OUT and stories that are no duplicates, with no keyword entry used (R22, R23, R24, R35, R55,
R57, R149, R150). The case UNKNOWN of a sender in QUIET is the model's inference (log entry 17), and the tick the
counter is moved up to its choice (log entry 3). -/
def Obligations.BreakAndRestore : Prop :=
  (∀ (l : Fin 16) (t : Nat) (s : State),
    let x := s.room.lines[l]
    x.assembler.window = [] → x.assembler.current = none → x.assembler.suspended = none →
    (x.receiver.state = .waiting → x.receiver.space = some t → x.assembler.machine = .hunt →
      (x.settings.mode = .receive ∨ (x.settings.mode = .both ∧ x.sender.machine = .quiet ∧ x.sender.txChar = none ∧
        x.sender.identify.phase = .none ∧ x.sender.current = none ∧ x.sender.suspension = .empty ∧
        x.sender.stopPending = none)) →
      ∃ u : State, exec (.breakDetected l) s = .next u.finish ∧
        u.time.ticks = max s.time.ticks (t + 3 * x.settings.charTicks) ∧
        u.room.lines[l].receiver = { x.receiver with state := .broken, space := none, mark := none } ∧
        u.room.ports = s.room.ports.set (linePort l) { s.room.ports[linePort l] with
          conditions := { s.room.ports[linePort l].conditions with broken := true } } ∧
        u.room.lines[l].decoder.returnSeen = false ∧ u.room.lines[l].decoder.inLine = false ∧
        u.room.lines[l].assembler.machine = .broken ∧ u.room.lines[l].assembler.timer = none ∧
        u.room.lines[l].assembler.skip = false ∧
        (x.settings.mode = .receive → u.room.lines[l].sender = x.sender) ∧
        (x.settings.mode = .both → u.room.lines[l].sender.machine = .blocked ∧
          u.room.lines[l].sender.case = .unknown ∧ u.room.lines[l].sender.answerPending = false) ∧
        u.room.stories = s.room.stories ∧ u.room.desks = s.room.desks ∧
        (∀ m : Fin 16, m ≠ l → u.room.lines[m] = s.room.lines[m])) ∧
    (x.receiver.state = .broken → x.receiver.mark = some t →
      (x.settings.mode = .receive ∨ (x.settings.mode = .both ∧ x.sender.machine = .blocked ∧
        x.sender.txChar = none ∧ s.room.ports[linePort l].conditions.unidentified = false ∧ x.sender.identify.phase = .none ∧
        ∀ e ∈ s.room.ports[linePort l].queue, s.room.stories[e.slot].held = true)) →
      ∃ u : State, exec (.restore l) s = .next u.finish ∧
        u.time.ticks = max s.time.ticks (t + 10 * x.settings.charTicks) ∧
        u.room.lines[l].receiver = { x.receiver with state := .waiting, space := none, mark := none } ∧
        u.room.ports = s.room.ports.set (linePort l) { s.room.ports[linePort l] with
          conditions := { s.room.ports[linePort l].conditions with broken := false } } ∧
        u.room.lines[l].decoder =
          { x.decoder with case := .letters, returnSeen := false, inLine := false, blankLines := 0 } ∧
        u.room.lines[l].assembler.machine = .hunt ∧ u.room.lines[l].assembler.timer = some u.time.ticks ∧
        u.room.lines[l].assembler.window = [] ∧ u.room.lines[l].assembler.skip = false ∧
        (x.settings.mode = .receive → u.room.lines[l].sender = x.sender) ∧
        (x.settings.mode = .both → u.room.lines[l].sender.machine = .quiet) ∧
        u.room.stories = s.room.stories ∧ u.room.desks = s.room.desks ∧
        (∀ m : Fin 16, m ≠ l → u.room.lines[m] = s.room.lines[m]))) ∧
  (∀ (l : Fin 16) (t : Nat) (s : State),
    let x := s.room.lines[l]
    let p := s.room.ports[linePort l]
    let broken : State := { s with room := { s.room with
      ports := s.room.ports.set (linePort l) { p with conditions := { p.conditions with broken := true } }
      link := { s.room.link with
        notices := if p.conditions.broken = true then s.room.link.notices
          else portPosted (linePort l) s.room.link.notices } } }
    x.receiver.state = .waiting → x.receiver.space = some t → TruncatesPlainly s l →
    (x.settings.mode = .receive ∨ (x.settings.mode = .both ∧ x.sender.machine = .quiet ∧ x.sender.txChar = none ∧
      x.sender.identify.phase = .none ∧ x.sender.current = none ∧ x.sender.suspension = .empty ∧
      x.sender.stopPending = none)) →
    ∃ w u : State, ClosedTruncated broken w l ∧ exec (.breakDetected l) s = .next u.finish ∧
      u.time = { s.time with ticks := max s.time.ticks (t + 3 * x.settings.charTicks) } ∧ u.part = s.part ∧
      u.pending = s.pending ∧ u.room = { w.room with lines := u.room.lines } ∧
      (∀ m : Fin 16, m ≠ l → u.room.lines[m] = s.room.lines[m]) ∧
      u.room.lines[l].settings = x.settings ∧
      u.room.lines[l].receiver = { x.receiver with state := .broken, space := none, mark := none } ∧
      u.room.lines[l].decoder.returnSeen = false ∧ u.room.lines[l].decoder.inLine = false ∧
      u.room.lines[l].assembler = { x.assembler with
        machine := .broken, window := [], skip := false, current := none, suspended := none, timer := none
        fifo := if x.assembler.current = none then x.assembler.fifo else [], markers := s.part.markers } ∧
      (x.settings.mode = .receive → u.room.lines[l].sender = x.sender) ∧
      (x.settings.mode = .both → u.room.lines[l].sender.machine = .blocked ∧
        u.room.lines[l].sender.case = .unknown ∧ u.room.lines[l].sender.answerPending = false))

/-- The end of the motor start wait, with no answer pending and no exchange due: a sender with no eligible entry is READY
with its idle timer started; otherwise it takes the first eligible entry, which leaves the queue, and is SENDING that
story from its first cell, its delivery begun, the carriage return first when the column is not 0. The end of the motor
idle time in READY with nothing eligible: QUIET (R108, R119, R120, R121, R124). The column is 0 from the start of the carriage
return (the model's inference, log entry 10); the tick the counter is moved up to is its choice (log entry 3). -/
def Obligations.MotorTimersExpire : Prop :=
  ∀ (l : Fin 16) (t : Nat) (s : State),
    let x := s.room.lines[l]
    let p := s.room.ports[linePort l]
    x.sender.identify.phase ≠ .pending →
    (x.sender.machine = .starting → x.sender.startTimer = some t → x.sender.answerPending = false →
      x.settings.identifyBefore = false →
      let now := max s.time.ticks (t + x.settings.startWait * 100)
      ((∀ e ∈ p.queue, s.room.stories[e.slot].held = true) →
        ∃ u : State, exec (.startWaitEnd l) s = .next u.finish ∧ u.time.ticks = now ∧
          u.room.lines[l].sender.machine = .ready ∧ u.room.lines[l].sender.idleTimer = some now ∧
          u.room.lines[l].sender.startTimer = none ∧ u.room.lines[l].sender.current = none ∧
          u.room.ports = s.room.ports ∧ u.room.stories = s.room.stories ∧ u.room.link = s.room.link ∧
          u.room.desks = s.room.desks ∧ ∀ m : Fin 16, m ≠ l → u.room.lines[m] = s.room.lines[m]) ∧
      (∀ (before after : List QEntry) (e : QEntry), p.queue = before ++ e :: after →
        (∀ y ∈ before, s.room.stories[y.slot].held = true) → s.room.stories[e.slot].held = false →
        ∃ u : State, exec (.startWaitEnd l) s = .next u.finish ∧ u.time.ticks = now ∧
          u.room.lines[l].sender.machine = .sending ∧
          u.room.lines[l].sender.current = some ⟨e.slot, e.cls⟩ ∧ u.room.lines[l].sender.readPos = 0 ∧
          (x.sender.column ≠ 0 → u.room.lines[l].sender.txChar = some (.cr, now) ∧
            u.room.lines[l].sender.column = 0) ∧
          u.room.ports = s.room.ports.set (linePort l) { p with queue := p.queue.filter fun y => y.slot != e.slot } ∧
          u.room.stories = s.room.stories.set e.slot { s.room.stories[e.slot] with begun := true } ∧
          u.room.link = s.room.link ∧ u.room.desks = s.room.desks ∧
          ∀ m : Fin 16, m ≠ l → u.room.lines[m] = s.room.lines[m])) ∧
    (x.sender.machine = .ready → x.sender.idleTimer = some t →
      (∀ e ∈ p.queue, s.room.stories[e.slot].held = true) →
      ∃ u : State, exec (.motorIdleExpiry l) s = .next u.finish ∧
        u.time.ticks = max s.time.ticks (t + x.settings.idleTime * 100000) ∧
        u.room.lines[l].sender.machine = .quiet ∧ u.room.lines[l].sender.idleTimer = none ∧
        u.room.lines[l].sender.column = x.sender.column ∧ u.room.lines[l].sender.case = x.sender.case ∧
        u.room.ports = s.room.ports ∧ u.room.stories = s.room.stories ∧ u.room.link = s.room.link ∧
        ∀ m : Fin 16, m ≠ l → u.room.lines[m] = s.room.lines[m])

/-- The end of the character in progress, one character time after it began, with no event waiting for it and no CUT,
or under a CUT short of its cut point or within its VOIDs. A code chosen to follow begins now: a carriage return takes
the column to 0, a space or printing code adds one, a shift sets the send case and so does a space under
unshift-on-space. A marker's last letter is followed by the return sequence, with N fill codes, the minimum fill and
the travel of R134 to 15 at most; OPEN has then raised the far-open count, CLOSE and VOID lowered it. After an
answerback's return, with no work at hand, the sender is READY in the send case of R136 (R123, R125, R128, R129, R134,
R136, R142). The end of a return with a DRAIN pending and no answer: with no story left and nothing suspended the port
goes OUT, its queue kept, the far-open count 0 and the restart-VOID flag clear, at a completion, reported first, and
behind the VOID of a cancel or an interruption. A FLASH is not taken after BREAK or behind a completed one: a HELD
story is resumed, and a WITHDRAWN suspension ended with VOID. No story is broken off (R124, R140, R141, R143, R144,
R145, R151). The cut point of a SENDING sender under a CUT: the end of any return, and of a character at column 0
within none. A story whose step 7 the return was completes. Any other current story, one with an answerback behind its
step 7 among them, and that of a HELD context go back to the head of their class. While the far end holds stories open
a VOID begins, and at its return's end the next; with none open the port goes OUT, its queue kept (R109, R110, R152,
R154). Column and case at a code's begin and the far-open count at the last letter's end are the model's inference (log
entry 10), as are staged settings where no return has ended (entry 38); the tick is its choice (log entry 3).
Completion is told for a story pending at another port besides. -/
def Obligations.CharacterEndGoesOn : Prop :=
  (∀ (l : Fin 16) (c : SendCode) (t : Nat) (s : State),
      let x := s.room.lines[l]
      let now := max s.time.ticks (t + x.settings.charTicks)
      x.sender.txChar = some (c, t) → x.sender.halt = .none →
      x.sender.stopPending ≠ some .cut ∨ x.sender.column ≠ 0 ∨
        (∃ rest, x.sender.activity = .marker .vd rest .cutPoint) ∨
        (∃ (next : Next) (n : Nat) (fill : FillChar) (refresh own : Bool),
          x.sender.activity = .ret next n fill refresh own) →
      (∀ (d : SendCode) (rest : List SendCode), x.sender.codes = d :: rest →
        exec (.sendCharacterEnd l) s = .next ({ s with
          time := { s.time with ticks := now }
          room := { s.room with lines := s.room.lines.set l { x with sender := { x.sender with
            codes := rest
            txChar := some (d, now)
            column := match d with
              | .cr => 0
              | .space => x.sender.column + 1
              | .print _ _ => x.sender.column + 1
              | _ => x.sender.column
            case := match d with
              | .shift .letters => .letters
              | .shift .figures => .figures
              | .space => if x.sender.settings.unshift then .letters else x.sender.case
              | _ => x.sender.case } } } } : State).finish) ∧
      (∀ (m : Marker) (next : Next), x.sender.codes = [] → x.sender.activity = .marker m [] next →
        let n := min 15 (x.sender.settings.minFill +
          (x.sender.column * x.sender.settings.allowance + x.settings.charTicks - 1) / x.settings.charTicks)
        ∃ u : State, exec (.sendCharacterEnd l) s = .next u.finish ∧ u.time.ticks = now ∧
          u.room.lines[l].sender.txChar = some (.cr, now) ∧ u.room.lines[l].sender.column = 0 ∧
          u.room.lines[l].sender.codes = .lf :: List.replicate n (.fill x.sender.settings.fill) ∧
          u.room.lines[l].sender.case = x.sender.case ∧
          u.room.lines[l].sender.farOpen = (match m with
            | .opn => x.sender.farOpen + 1
            | .cls => x.sender.farOpen - 1
            | .vd => x.sender.farOpen - 1
            | _ => x.sender.farOpen) ∧
          u.room.ports = s.room.ports ∧ u.room.stories = s.room.stories ∧
          ∀ j : Fin 16, j ≠ l → u.room.lines[j] = s.room.lines[j]) ∧
      (∀ (n : Nat) (fill : FillChar) (refresh own : Bool), x.sender.codes = [] →
        x.sender.activity = .ret .ready n fill refresh own → x.sender.machine = .ready → x.sender.stopPending = none →
        x.sender.identify.phase ≠ .pending →
        (∀ e ∈ s.room.ports[linePort l].queue, s.room.stories[e.slot].held = true) →
        ∃ u : State, exec (.sendCharacterEnd l) s = .next u.finish ∧ u.time.ticks = now ∧
          u.room.lines[l].sender.machine = .ready ∧ u.room.lines[l].sender.txChar = none ∧
          u.room.lines[l].sender.idleTimer = some now ∧
          u.room.lines[l].sender.case =
            (if fill = .letters ∧ 1 ≤ n then .letters else if refresh then .unknown else x.sender.case))) ∧
  (∀ (l : Fin 16) (c : SendCode) (t n : Nat) (next : Next) (fill : FillChar) (refresh own : Bool) (s : State),
      let x := s.room.lines[l]
      let y := x.sender
      let p := s.room.ports[linePort l]
      let now := max s.time.ticks (t + x.settings.charTicks)
      let case := if fill = .letters ∧ 1 ≤ n then SendCase.letters else if refresh then .unknown else y.case
      let ends (u : State) : Prop := exec (.sendCharacterEnd l) s = .next u.finish ∧
        u.time = { s.time with ticks := now } ∧ u.part = s.part ∧ u.room.link = s.room.link ∧
        u.room.desks = s.room.desks ∧ (∀ m : Fin 16, m ≠ l → u.room.lines[m] = s.room.lines[m]) ∧
        ∀ q : Fin 24, q ≠ linePort l → u.room.ports[q] = s.room.ports[q]
      let out (u : State) : Prop := u.room.lines[l].sender.machine = .out ∧ u.room.lines[l].sender.current = none ∧
        u.room.lines[l].sender.txChar = none ∧ u.room.lines[l].sender.suspension = .empty ∧
        u.room.lines[l].sender.farOpen = 0 ∧ u.room.lines[l].sender.restartVoid = false ∧
        u.room.lines[l].sender.stopPending = none ∧ u.room.lines[l].sender.case = case ∧
        u.room.lines[l].sender.column = y.column ∧ u.room.lines[l].sender.staged = StagedSend.none ∧
        u.room.lines[l].sender.settings = y.settings.apply y.staged
      let begins (u : State) (m : Marker) (follows : Next) : Prop :=
        ∀ (a pos : Nat) (rest : List Nat), s.part.markers.letters m = a :: rest →
          y.map.letters.getD a none = some pos → u.room.lines[l].sender.activity = .marker m rest follows ∧
            letterBegins case 0 pos now u.room.lines[l].sender
      let sent : Port := { p with counters := { p.counters with sent := min (p.counters.sent + 1) 65535 } }
      let done (d : Delivery) : Story := { s.room.stories[d.slot] with
        pendingSet := s.room.stories[d.slot].pendingSet.set (linePort l) false
        doneSet := s.room.stories[d.slot].doneSet.set (linePort l) true
        substitutions := min (s.room.stories[d.slot].substitutions + y.substitutions) 65535 }
      y.txChar = some (c, t) → y.halt = .none → y.codes = [] → y.activity = .ret next n fill refresh own →
      y.machine = .sending → y.stopPending = some .drain → y.answerPending = false → y.side.refresh = false →
      y.column = 0 →
      (next = .withdrawnDone ∨ next = .heldCancelDone ∨ next = .cancelDone ∧ y.suspension = .empty →
        ∃ u : State, ends u ∧ out u ∧ u.room.stories = s.room.stories ∧
          u.room.ports[linePort l] = { p with inService := false }) ∧
      (∀ (d : Delivery) (q : Fin 24), next = .complete → y.current = some d →
        s.room.stories[d.slot].pendingSet[q] = true → q ≠ linePort l →
        (y.suspension = .empty → ∃ u : State, ends u ∧ out u ∧
          u.room.stories = s.room.stories.set d.slot (done d) ∧
          u.room.ports[linePort l] = { sent with inService := false }) ∧
        (y.suspension ≠ .empty → ∃ u : State, ends u ∧ u.room.stories = s.room.stories.set d.slot (done d) ∧
          u.room.ports[linePort l] = sent ∧ u.room.lines[l].sender.suspension = y.suspension ∧
          u.room.lines[l].sender.stopPending = some .drain ∧
          (∀ h : HeldContext, y.suspension = .held h → begins u .res .afterResume) ∧
          (y.suspension = .withdrawn → begins u .vd .withdrawnDone))) ∧
      (∀ h : HeldContext, next = .afterBreak → y.suspension = .held h →
        ∃ u : State, ends u ∧ u.room.stories = s.room.stories ∧ u.room.ports = s.room.ports ∧
          u.room.lines[l].sender.suspension = .held h ∧ u.room.lines[l].sender.stopPending = some .drain ∧
          begins u .res .afterResume) ∧
      (∀ (d : Delivery) (rest : List Cell), next = .afterOpen ∨ next = .afterLine false → y.current = some d →
        y.identify.phase ≠ .pending → s.room.stories[d.slot].text.drop y.readPos = 10 :: rest →
        ∃ u : State, ends u ∧ u.room.stories = s.room.stories ∧ u.room.ports = s.room.ports ∧
          u.room.lines[l].sender.current = some d ∧ u.room.lines[l].sender.suspension = y.suspension ∧
          u.room.lines[l].sender.readPos = y.readPos + 1 ∧ u.room.lines[l].sender.txChar = some (.cr, now))) ∧
  (∀ (l : Fin 16) (c : SendCode) (t : Nat) (s : State),
      let x := s.room.lines[l]
      let y := x.sender
      let p := s.room.ports[linePort l]
      let now := max s.time.ticks (t + x.settings.charTicks)
      let head (d : Option Delivery) (q : List QEntry) : List QEntry := match d with
        | some d => queueHead ⟨d.slot, d.cls, s.time.seconds⟩ q
        | none => q
      let held : Option Delivery := match y.suspension with
        | .held h => some ⟨h.slot, h.cls⟩
        | _ => none
      let cut (u : State) (port : Port) (case : SendCase) : Prop :=
        let z := u.room.lines[l].sender
        exec (.sendCharacterEnd l) s = .next u.finish ∧ u.time = { s.time with ticks := now } ∧ u.part = s.part ∧
        u.room.link = s.room.link ∧ u.room.desks = s.room.desks ∧
        (∀ m : Fin 16, m ≠ l → u.room.lines[m] = s.room.lines[m]) ∧
        (∀ q : Fin 24, q ≠ linePort l → u.room.ports[q] = s.room.ports[q]) ∧
        z.current = none ∧ z.suspension = .empty ∧ z.halt = .none ∧ z.pendingSpaces = 0 ∧
        (y.farOpen = 0 → z.machine = .out ∧ z.txChar = none ∧ z.column = 0 ∧ z.case = case ∧ z.farOpen = 0 ∧
          z.restartVoid = false ∧ z.stopPending = none ∧ z.answerPending = false ∧ z.staged = StagedSend.none ∧
          z.settings = y.settings.apply y.staged ∧ u.room.ports[linePort l] = { port with inService := false }) ∧
        (y.farOpen ≠ 0 → z.machine = .sending ∧ z.farOpen = y.farOpen ∧ z.stopPending = some .cut ∧
          u.room.ports[linePort l] = port ∧
          ∀ (a pos : Nat) (rest : List Nat), s.part.markers.vd = a :: rest → y.map.letters.getD a none = some pos →
            z.activity = .marker .vd rest .cutPoint ∧ letterBegins case 0 pos now z)
      y.txChar = some (c, t) → y.halt = .none → y.machine = .sending → y.stopPending = some .cut → y.column = 0 →
      y.side.refresh = false →
      (∀ (next : Next) (n : Nat) (fill : FillChar) (refresh own : Bool), y.codes = [] →
        y.activity = .ret next n fill refresh own →
        let case := if fill = .letters ∧ 1 ≤ n then SendCase.letters else if refresh then .unknown else y.case
        (next ≠ .complete ∨ own = true → ∃ u : State,
          cut u { p with queue := head held (head y.current p.queue) } case ∧
          u.room.stories = s.room.stories) ∧
        (∀ (d : Delivery) (q : Fin 24), next = .complete → own = false → y.current = some d →
          s.room.stories[d.slot].pendingSet[q] = true → q ≠ linePort l →
          ∃ u : State, cut u { p with
              queue := head held p.queue
              counters := { p.counters with sent := min (p.counters.sent + 1) 65535 } } case ∧
            u.room.stories = s.room.stories.set d.slot { s.room.stories[d.slot] with
              pendingSet := s.room.stories[d.slot].pendingSet.set (linePort l) false
              doneSet := s.room.stories[d.slot].doneSet.set (linePort l) true
              substitutions := min (s.room.stories[d.slot].substitutions + y.substitutions) 65535 })) ∧
      (y.activity = .text ∨ (∃ (rest : List Nat) (next : Next), y.activity = .answer rest next ∧ next ≠ .cutPoint) ∨
          (∃ (m : Marker) (rest : List Nat) (next : Next), y.activity = .marker m rest next ∧ next ≠ .cutPoint ∧
            (rest ≠ [] ∨ y.codes ≠ [])) →
        ∃ u : State, cut u { p with queue := head held (head y.current p.queue) } y.case ∧
          u.room.stories = s.room.stories))

/-- The text a line sender takes up at the end of a character of its story. A line end brings the return sequence of
R134 and counts a text line sent. At the first cell of a word, reckoned with the pending spaces and the word's length,
the word is placed: a fold, or the spaces that R131 keeps, or its first code. A cell within a word is looked up and
sent, behind a shift unless the send case is its own; an unmapped one, a garble mark among them, is sent as the
substitution character and counted, or dropped and counted when that has no position; at a column of the width the
hard break comes first. At the end of the text the closing return begins, or at column 0 the CLOSE marker. A bell is
sent in place. A word's length counts its cells that will print, to one past the width. The send pin shows the
character in progress: a unit of space, five data elements, least significant bit first, and then mark, the rest level
(R11, R123, R124, R126–R134). A code's effect on column and case comes as it begins (the model's inference, log entry
10), and the substitution character is looked up folded to upper case (its inference, log entry 15); the tick is its
choice (log entry 3). -/
def Obligations.StoryTextIsEncoded : Prop :=
  (∀ (l : Fin 16) (c : SendCode) (t : Nat) (d : Delivery) (s : State),
    let x := s.room.lines[l]
    let y := x.sender
    let now := max s.time.ticks (t + x.settings.charTicks)
    let cells := s.room.stories[d.slot].text.drop y.readPos
    let put (z : Sender) : Answer := .next ({ s with
      time := { s.time with ticks := now }
      room := { s.room with lines := s.room.lines.set l { x with sender := z } } } : State).finish
    let returned (z : Sender) (next : Next) : Prop := ∃ u : State, exec (.sendCharacterEnd l) s = .next u.finish ∧
      u.time = { s.time with ticks := now } ∧ OnlyLine s u l ∧ returnBegins x now next u.room.lines[l].sender ∧
      u.room.lines[l].sender = { z with
        txChar := u.room.lines[l].sender.txChar, column := 0, pendingSpaces := 0
        activity := u.room.lines[l].sender.activity, codes := u.room.lines[l].sender.codes }
    let sent (z : Sender) (k : Case) (code : Nat) (bell : Bool) : Sender :=
      let begun : SendCode := if bell then .bell k code else .print k code
      if y.case = k.send then
        { z with txChar := some (begun, now), codes := [], column := if bell then z.column else z.column + 1 }
      else { z with txChar := some (.shift k, now), codes := [begun], case := k.send }
    let spaced (z : Sender) (more : Nat) : Sender := { z with
      txChar := some (.space, now), codes := List.replicate more .space, column := z.column + 1
      case := if z.settings.unshift then .letters else z.case }
    y.txChar = some (c, t) → y.halt = .none → y.stopPending ≠ some .cut → y.activity = .text → y.codes = [] →
    y.current = some d →
    (∀ rest : List Cell, cells = 10 :: rest →
      returned { y with readPos := y.readPos + 1, linesSent := y.linesSent + 1, inWord := false }
        (.afterLine (rest = []))) ∧
    (cells = [] → y.column ≠ 0 → returned { y with inWord := false } .closeMarker) ∧
    (∀ (a p : Nat) (rest : List Nat), cells = [] → y.column = 0 → s.part.markers.cls = a :: rest →
      y.map.letters.getD a none = some p →
      ∃ u : State, exec (.sendCharacterEnd l) s = .next u.finish ∧ u.time = { s.time with ticks := now } ∧
        OnlyLine s u l ∧ letterBegins y.case 0 p now u.room.lines[l].sender ∧
        u.room.lines[l].sender.activity = .marker .cls rest .complete) ∧
    (∀ (q v : Nat) (rest : List Cell), cells = List.replicate q 32 ++ v :: rest → isWordCell v = true →
      (y.inWord = false ∨ 0 < q) →
      let p := y.pendingSpaces + q
      let k := y.wordLength 0 (v :: rest)
      let n := if y.column = 0 then min p (y.settings.width - k) else p
      let at_ : Sender := { y with readPos := y.readPos + q, pendingSpaces := 0, inWord := true }
      (y.column ≠ 0 → y.settings.width < y.column + p + k →
        returned { y with readPos := y.readPos + q, inWord := false } .text) ∧
      (y.column = 0 ∨ y.column + p + k ≤ y.settings.width →
        (n ≠ 0 → exec (.sendCharacterEnd l) s = put (spaced at_ (n - 1))) ∧
        (∀ (case : Case) (code : Nat), n = 0 → y.map.find y.case v = some (case, code) → y.column < y.settings.width →
          exec (.sendCharacterEnd l) s = put (sent { at_ with readPos := y.readPos + q + 1 } case code false)))) ∧
    (∀ (v : Nat) (rest : List Cell), cells = v :: rest → isWordCell v = true → y.inWord = true →
      let counted : Sender := { y with
        readPos := y.readPos + 1, substitutions := min (y.substitutions + 1) 65535 }
      (y.column < y.settings.width →
        (∀ (case : Case) (code : Nat), y.map.find y.case v = some (case, code) →
          exec (.sendCharacterEnd l) s = put (sent { y with readPos := y.readPos + 1 } case code false)) ∧
        (y.map.find y.case v = none →
          (y.settings.substitution = 32 → exec (.sendCharacterEnd l) s = put (spaced counted 0)) ∧
          (∀ (case : Case) (code : Nat), y.settings.substitution ≠ 32 →
            y.map.find y.case y.settings.substitution = some (case, code) →
            exec (.sendCharacterEnd l) s = put (sent counted case code false)))) ∧
      (y.settings.width ≤ y.column →
        (y.map.find y.case v ≠ none ∨ y.settings.substitution = 32 ∨
          y.map.find y.case y.settings.substitution ≠ none) → returned y .text) ∧
      (∀ more : List Cell, y.map.find y.case v = none → y.settings.substitution ≠ 32 →
        y.map.find y.case y.settings.substitution = none → rest = 10 :: more →
        returned { counted with
          readPos := y.readPos + 2, linesSent := y.linesSent + 1, inWord := false } (.afterLine (more = [])))) ∧
    (∀ (rest : List Cell) (case : Case) (code : Nat), cells = 7 :: rest → y.inWord = true →
      y.map.find y.case 7 = some (case, code) →
      exec (.sendCharacterEnd l) s = put (sent { y with readPos := y.readPos + 1 } case code true))) ∧
  (∀ (y : Sender) (word tail : List Cell), (∀ v ∈ word, isWordCell v = true ∨ v = 7) →
    (∀ v, tail.head? = some v → isWordCell v = false ∧ v ≠ 7) →
    y.wordLength 0 (word ++ tail) = min (y.settings.width + 1) (word.countP fun v =>
      v != 7 && (y.map.find y.case v != none || y.settings.substitution == 32 ||
        y.map.find y.case y.settings.substitution != none))) ∧
  (∀ (x : Line) (tick : Nat), (x.sender.txChar = none → x.sendPin tick = .mark) ∧
    (∀ (c : SendCode) (began : Nat), x.sender.txChar = some (c, began) → began ≤ tick →
      let unit := unitTicks x.settings.rate
      (tick < began + unit → x.sendPin tick = .space) ∧
      (∀ bit : Fin 5, began + (bit.val + 1) * unit ≤ tick → tick < began + (bit.val + 2) * unit →
        x.sendPin tick = if c.line.testBit bit.val then .mark else .space) ∧
      (began + 6 * unit ≤ tick → x.sendPin tick = .mark)))

/-- STORY CANCEL of a story that is pending at one line alone, told for a free count at the threshold or above: the
story settles with that port missed, and nothing but that line's sender changes besides. Its current story: a sender
within text stops at the end of the character in progress, one within a return sequence at its end, its pending spaces
0. Its suspended story: the suspension is WITHDRAWN, and within the BREAK or RESUME marker the sender stops at the
character's end. Where the sender stops a return sequence begins when the column is not 0; the VOID marker follows at
column 0, for a current story open at the far end and for a suspended one with no current story. With that VOID's
return sent, or with none owed, a sender with nothing suspended, no stop, no exchange pending and nothing eligible is
READY (R110, R112, R116, R121, R125, R134, R147, R148; the ticks are the model's choice, log entry 3). That the column
and the case change as a code begins (log entry 10), and that the suspension of a story cancelled while a cancelled
FLASH ends its character is WITHDRAWN (log entry 34), are the model's inferences; that a marker with letters left has
not ended there, be they all dropped, is its choice (log entry 46). -/
def Obligations.CancelOfADelivery : Prop :=
  (∀ (tag : Octet) (l : Fin 16) (i : Fin 256) (s : State), Takes s →
    let x := s.room.lines[l]
    let y := x.sender
    let after (z : Sender) : Answer := answered { s with room := { s.room with
      ports := s.room.ports.set (linePort l)
        { s.room.ports[linePort l] with queue := s.room.ports[linePort l].queue.filter fun e => e.slot != i }
      lines := s.room.lines.set l { x with sender := z }
      stories := s.room.stories.set i { s.room.stories[i] with
        state := .settled
        pendingSet := s.room.stories[i].pendingSet.set (linePort l) false
        doneSet := s.room.stories[i].doneSet.set (linePort l) false
        missedSet := s.room.stories[i].missedSet.set (linePort l) true
        noticePending := true }
      settled := s.room.settled ++ [i]
      link := { s.room.link with
        notices := postStoryList i StoryKinds.ofSettled
          (postStoryList i StoryKinds.ofMissed s.room.link.notices) } } } tag (.ports 1)
    s.room.stories[i].state = .filed → setMembers s.room.stories[i].pendingSet = [linePort l] →
    s.part.threshold ≤ s.room.freeCount →
    (∀ d : Delivery, y.current = some d → d.slot = i → s.room.suspendedOf (linePort l) ≠ some i →
      y.machine = .sending →
      let gone : Sender := { y with current := none, substitutions := 0, pendingSpaces := 0 }
      (y.activity = .text → y.halt = .none →
        exec (.storyCancel tag i.val) s = after { gone with halt := .cancelled }) ∧
      (∀ (next : Next) (n : Nat) (fill : FillChar) (refresh own : Bool),
        y.activity = .ret next n fill refresh own → next ≠ .cutPoint →
        exec (.storyCancel tag i.val) s = after { gone with activity := .ret .cancelled n fill refresh own })) ∧
    (∀ c : HeldContext, y.suspension = .held c → c.slot = i → (∀ d, y.current = some d → d.slot ≠ i) →
      (y.activity = .text →
        exec (.storyCancel tag i.val) s = after { y with suspension := .withdrawn }) ∧
      (∀ (m : Marker) (rest : List Nat) (next : Next), y.activity = .marker m rest next →
        next = .afterBreak ∨ next = .afterResume → y.halt = .none →
        exec (.storyCancel tag i.val) s = after { y with suspension := .withdrawn, halt := .heldCancelled }))) ∧
  (∀ (l : Fin 16) (c : SendCode) (t : Nat) (s : State),
    let x := s.room.lines[l]
    let y := x.sender
    let now := max s.time.ticks (t + x.settings.charTicks)
    let ends (u : State) : Prop := exec (.sendCharacterEnd l) s = .next u.finish ∧
      u.time = { s.time with ticks := now } ∧ OnlyLine s u l
    let voids (case : SendCase) (next : Next) : Prop :=
      ∀ (a p : Nat) (rest : List Nat), s.part.markers.vd = a :: rest → y.map.letters.getD a none = some p →
        ∃ u : State, ends u ∧ u.room.lines[l].sender.activity = .marker .vd rest next ∧
          letterBegins case 0 p now u.room.lines[l].sender ∧ u.room.lines[l].sender.farOpen = y.farOpen ∧
          u.room.lines[l].sender.halt = .none ∧ u.room.lines[l].sender.suspension = y.suspension
    let ready : Prop := ∃ u : State, ends u ∧ u.room.lines[l].sender.machine = .ready ∧
      u.room.lines[l].sender.idleTimer = some now ∧ u.room.lines[l].sender.txChar = none ∧
      u.room.lines[l].sender.activity = .idle ∧ u.room.lines[l].sender.suspension = .empty ∧
      u.room.lines[l].sender.farOpen = y.farOpen ∧ u.room.lines[l].sender.current = none
    y.txChar = some (c, t) → y.machine = .sending → y.stopPending = none → y.current = none →
    (∀ (next : Next) (h : Halt), (h = .cancelled ∧ next = .cancelled ∨ h = .heldCancelled ∧ next = .heldCancelled) →
      y.halt = h → y.activity = .text ∨ (∃ m a rest more, y.activity = .marker m (a :: rest) more) →
      (y.column ≠ 0 → ∃ u : State, ends u ∧ returnBegins x now next u.room.lines[l].sender ∧
        u.room.lines[l].sender.halt = .none ∧ u.room.lines[l].sender.suspension = y.suspension ∧
        u.room.lines[l].sender.openNow = y.openNow) ∧
      (y.column = 0 → next = .heldCancelled ∨ y.openNow = true →
        voids y.case (if next = .cancelled then .cancelDone else .heldCancelDone)) ∧
      (y.column = 0 → next = .cancelled → y.openNow = false → y.suspension = .empty → NoWork s (linePort l) →
        y.identify.phase ≠ .pending → ready)) ∧
    (∀ (next : Next) (n : Nat) (fill : FillChar) (refresh own : Bool),
      y.halt = .none → y.codes = [] → y.activity = .ret next n fill refresh own → y.answerPending = false →
      y.side.refresh = false → y.column = 0 →
      let case := if fill = .letters ∧ 1 ≤ n then SendCase.letters else if refresh then .unknown else y.case
      (next = .cancelled → y.openNow = true → voids case .cancelDone) ∧
      (next = .heldCancelled → voids case .heldCancelDone) ∧
      ((next = .cancelled ∧ y.openNow = false ∧ y.suspension = .empty) ∨
          (next = .cancelDone ∧ y.suspension = .empty) ∨ next = .heldCancelDone →
        NoWork s (linePort l) → y.identify.phase ≠ .pending → ready)))

/-- The interruption of a story for FLASH copy, at the end of a return sequence with no stop and no answer pending. At
a suspension point, the return after OPEN or for a stored line end before the text's last cell, a sender of a story
that is not FLASH, with nothing suspended and FLASH copy first eligible, makes it HELD and begins BREAK. At the end of
BREAK's return the FLASH is taken and framed from its OPEN, the suspension kept; with none eligible RESUME begins.
When a FLASH completes with none further eligible the counter goes up, its port goes from pending to done, and RESUME
begins, or VOID when the suspension is WITHDRAWN. At the end of RESUME's return the held story is current again where
it stood, with its class, lines sent and substitutions. After a break has ended a sending, the stories are back at the
heads of their classes, and the restart-VOID flag is set when the far end holds one open: the next framing, and each
VOID's return, begins a VOID until none is, and OPEN then, the flag clear (R105, R109, R110, R119, R121, R124, R125,
R142–R146, R149, R150; log entries 3, 10). That letters substituted in BREAK and RESUME are not among the
substitutions is the model's choice (log entry 47). -/
def Obligations.FlashSuspendsAndResumes : Prop :=
  ∀ (l : Fin 16) (c : SendCode) (t : Nat) (s : State),
    let x := s.room.lines[l]
    let y := x.sender
    let p := s.room.ports[linePort l]
    let now := max s.time.ticks (t + x.settings.charTicks)
    let ends (u : State) : Prop := exec (.sendCharacterEnd l) s = .next u.finish ∧
      u.time = { s.time with ticks := now } ∧ u.part = s.part ∧ u.room.link = s.room.link ∧
      u.room.desks = s.room.desks ∧ (∀ m : Fin 16, m ≠ l → u.room.lines[m] = s.room.lines[m]) ∧
      ∀ q : Fin 24, q ≠ linePort l → u.room.ports[q] = s.room.ports[q]
    let same (u : State) : Prop := u.room.ports = s.room.ports ∧ u.room.stories = s.room.stories
    let begins (u : State) (case : SendCase) (m : Marker) (next : Next) : Prop :=
      ∀ (a pos : Nat) (rest : List Nat), s.part.markers.letters m = a :: rest →
        y.map.letters.getD a none = some pos → u.room.lines[l].sender.activity = .marker m rest next ∧
          letterBegins case 0 pos now u.room.lines[l].sender
    let taken (u : State) (e : QEntry) : Prop :=
      u.room.lines[l].sender.current = some ⟨e.slot, e.cls⟩ ∧ u.room.lines[l].sender.readPos = 0 ∧
      u.room.ports[linePort l] = { p with queue := p.queue.filter fun z => z.slot != e.slot } ∧
      u.room.stories = s.room.stories.set e.slot { s.room.stories[e.slot] with begun := true }
    y.stopPending = none →
    (∀ (next : Next) (n : Nat) (fill : FillChar) (refresh own : Bool),
      y.txChar = some (c, t) → y.halt = .none → y.codes = [] → y.activity = .ret next n fill refresh own →
      y.machine = .sending → y.answerPending = false → y.side.refresh = false → y.column = 0 →
      let case := if fill = .letters ∧ 1 ≤ n then SendCase.letters else if refresh then .unknown else y.case
      (∀ (d : Delivery) (e : QEntry), next = .afterOpen ∨ next = .afterLine false → y.current = some d →
        d.cls ≠ .flash → y.suspension = .empty → s.room.firstEligible (linePort l) = some e → e.cls = .flash →
        ∃ u : State, ends u ∧ same u ∧ begins u case .brk .afterBreak ∧ u.room.lines[l].sender.current = none ∧
          u.room.lines[l].sender.suspension = .held ⟨d.slot, d.cls, y.readPos, y.linesSent, y.substitutions⟩ ∧
          u.room.lines[l].sender.farOpen = y.farOpen) ∧
      (∀ h : HeldContext, next = .afterBreak → y.suspension = .held h →
        (∀ e : QEntry, s.room.firstEligible (linePort l) = some e → e.cls = .flash → y.restartVoid = false →
          ∃ u : State, ends u ∧ taken u e ∧ begins u case .opn .afterOpen ∧
            u.room.lines[l].sender.suspension = .held h) ∧
        ((∀ e : QEntry, s.room.firstEligible (linePort l) = some e → e.cls ≠ .flash) →
          ∃ u : State, ends u ∧ same u ∧ begins u case .res .afterResume ∧
            u.room.lines[l].sender.suspension = .held h)) ∧
      (∀ (d : Delivery) (q : Fin 24), next = .complete → y.current = some d → y.suspension ≠ .empty →
        s.room.stories[d.slot].pendingSet[q] = true → q ≠ linePort l →
        (∀ e : QEntry, s.room.firstEligible (linePort l) = some e → e.cls ≠ .flash) →
        ∃ u : State, ends u ∧ u.room.lines[l].sender.current = none ∧
          u.room.lines[l].sender.suspension = y.suspension ∧
          u.room.ports[linePort l] = { p with counters := { p.counters with sent := min (p.counters.sent + 1) 65535 } } ∧
          u.room.stories = s.room.stories.set d.slot { s.room.stories[d.slot] with
            pendingSet := s.room.stories[d.slot].pendingSet.set (linePort l) false
            doneSet := s.room.stories[d.slot].doneSet.set (linePort l) true
            substitutions := min (s.room.stories[d.slot].substitutions + y.substitutions) 65535 } ∧
          (∀ h : HeldContext, y.suspension = .held h → begins u case .res .afterResume) ∧
          (y.suspension = .withdrawn → begins u case .vd .withdrawnDone)) ∧
      (∀ (h : HeldContext) (rest : List Cell), next = .afterResume → y.suspension = .held h →
        y.identify.phase ≠ .pending → s.room.stories[h.slot].text.drop h.readPos = 10 :: rest →
        ∃ u : State, ends u ∧ same u ∧ u.room.lines[l].sender.suspension = .empty ∧
          u.room.lines[l].sender.current = some ⟨h.slot, h.cls⟩ ∧
          u.room.lines[l].sender.readPos = h.readPos + 1 ∧ u.room.lines[l].sender.linesSent = h.linesSent + 1 ∧
          u.room.lines[l].sender.substitutions = h.substitutions ∧ u.room.lines[l].sender.openNow = true ∧
          u.room.lines[l].sender.farOpen = y.farOpen ∧ u.room.lines[l].sender.txChar = some (.cr, now)) ∧
      (next = .restartVoids →
        (0 < y.farOpen → ∃ u : State, ends u ∧ same u ∧ begins u case .vd .restartVoids ∧
          u.room.lines[l].sender.restartVoid = y.restartVoid) ∧
        (y.farOpen = 0 → ∃ u : State, ends u ∧ same u ∧ begins u case .opn .afterOpen ∧
          u.room.lines[l].sender.restartVoid = false))) ∧
    (∀ e : QEntry, y.machine = .starting → y.startTimer = some t → y.answerPending = false →
      x.settings.identifyBefore = false → y.identify.phase ≠ .pending → y.column = 0 → y.restartVoid = true →
      0 < y.farOpen → s.room.firstEligible (linePort l) = some e →
      ∃ u : State, exec (.startWaitEnd l) s = .next u.finish ∧ taken u e ∧
        ∀ (a pos : Nat) (rest : List Nat), s.part.markers.vd = a :: rest → y.map.letters.getD a none = some pos →
          u.room.lines[l].sender.activity = .marker .vd rest .restartVoids ∧
          letterBegins y.case 0 pos (max s.time.ticks (t + x.settings.startWait * 100)) u.room.lines[l].sender) ∧
    (∀ d : Delivery, y.txChar = some (c, t) → y.halt = .broken → y.activity = .text → y.machine = .sending →
      p.conditions.broken = true → y.current = some d →
      ∃ u : State, ends u ∧ u.room.stories = s.room.stories ∧ u.room.lines[l].sender.machine = .blocked ∧
        u.room.lines[l].sender.case = .unknown ∧ u.room.lines[l].sender.column = y.column ∧
        u.room.lines[l].sender.current = none ∧ u.room.lines[l].sender.suspension = .empty ∧
        u.room.lines[l].sender.farOpen = y.farOpen ∧
        u.room.lines[l].sender.restartVoid = (y.restartVoid || decide (0 < y.farOpen)) ∧
        u.room.ports[linePort l] = { p with queue :=
          let q := queueHead ⟨d.slot, d.cls, s.time.seconds⟩ p.queue
          match y.suspension with
            | .held h => queueHead ⟨h.slot, h.cls, s.time.seconds⟩ q
            | _ => q })

/-- The identify window expires without a match: short of the number of tries a new try begins, the collector empty,
with IDENT behind a figures shift unless the send case is FIGURES; at the last try the outcome is FAILED, UNIDENTIFIED
joins the condition set, the FAILED reply with the collector and the tries joins the reply queue when the host asked
and a place is free, and the closing return begins (R159, R160, R162, R165). That the send case is FIGURES from the
start of its shift is the model's inference (log entry 10); the tick the counter is moved up to is its choice (log
entry 3). -/
def Obligations.IdentifyWindowExpires : Prop :=
  ∀ (l : Fin 16) (t : Nat) (s : State),
    let x := s.room.lines[l]
    let i := x.sender.identify
    let now := max s.time.ticks (t + x.settings.window * 100)
    i.phase = .collecting → i.timer = some t →
    (∀ code : Nat, i.tryNumber < x.settings.tries → x.sender.identPos = some code →
      ∃ u : State, exec (.identifyWindowExpiry l) s = .next u.finish ∧ u.time.ticks = now ∧
        tryBegins (i.tryNumber + 1) code x.sender.case now u.room.lines[l].sender ∧
        u.room.ports = s.room.ports ∧ u.room.stories = s.room.stories ∧ u.room.link = s.room.link) ∧
    (x.settings.tries ≤ i.tryNumber → 1 ≤ i.tryNumber →
      ∃ u : State, exec (.identifyWindowExpiry l) s = .next u.finish ∧ u.time.ticks = now ∧
        u.room.lines[l].sender.identify.phase = .closing ∧ u.room.lines[l].sender.identify.outcome = .failed ∧
        u.room.lines[l].sender.txChar = some (.cr, now) ∧
        u.room.ports[linePort l].conditions =
          { s.room.ports[linePort l].conditions with unidentified := true } ∧
        (i.request = false → u.room.link.replies = s.room.link.replies) ∧
        (∀ tag : Octet, i.request = true → s.room.link.records = [⟨.line l, tag⟩] →
          s.room.link.replies.length < 8 → s.room.link.waiting = [] →
          u.room.link.records = [] ∧ u.room.link.replies =
            s.room.link.replies ++ [⟨tag, .failed, none, .identified i.collector i.tryNumber⟩]) ∧
        u.room.stories = s.room.stories)

/-- An exchange past its IDENT. At the end of the IDENT character the phase is COLLECTING and the window timer runs. A
cell that the line receives in COLLECTING joins the collector while that holds fewer than 40, and reaches neither the
assembler nor any story; so does none in the CALLING of a later try, and line ends are discarded. When the expected
answerback, not empty, then stands in the collector, letters folded, the outcome is DONE: the phase is CLOSING,
UNIDENTIFIED is gone, posted when it was there, the DONE reply with the cells and the try joins the reply queue when
the host asked and a place is free, and the closing return begins. At its end the exchange is over, the try number and
the collector kept. After DONE, told for no answer pending: the current story goes on; with none, VOID for a story
cancelled while open at the far end, else the first eligible story is taken and framed, or the sender is READY with
its idle timer running. After FAILED the sender is BLOCKED, its current and HELD stories at the heads of their
classes, VOIDs owed for what the far end holds open, and no answer pending. A try that finds no IDENT position ends
the exchange FAILED (R32, R109, R136, R138, R150, R155, R159–R162, R165; the ticks are the model's choice, log entry
3). That the code whose cell completes the answer reports no activity (log entry 31), that the column and the case
change as a code begins (log entry 10), and that no answer follows a FAILED exchange (log entry 29) are the model's
inferences. -/
def Obligations.ExchangeMatchesAndCloses : Prop :=
  (∀ (l : Fin 16) (code : Fin 32) (stop : Level) (cell : Cell) (s : State),
      let x := s.room.lines[l]
      let y := x.sender
      let i := y.identify
      let p := s.room.ports[linePort l]
      let now := max s.time.ticks (x.receiver.edge + 13 * unitTicks x.settings.rate / 2)
      let entry := (x.decoder.side.copy.half x.decoder.case)[code]
      let heard (u : State) (garbles : Nat) : Prop := exec (.characterReceived l code stop) s = .next u.finish ∧
        u.time = { s.time with ticks := now } ∧ u.part = s.part ∧ u.room.stories = s.room.stories ∧
        u.room.desks = s.room.desks ∧ u.room.lines[l].assembler = x.assembler ∧
        u.room.lines[l].settings = x.settings ∧ (∀ m : Fin 16, m ≠ l → u.room.lines[m] = s.room.lines[m]) ∧
        u.room.ports = s.room.ports.set (linePort l) { p with
          counters := { p.counters with characters := min (p.counters.characters + 1) 65535, garbles := garbles }
          conditions := u.room.ports[linePort l].conditions }
      let alone (u : State) : Prop := u.room.link = s.room.link ∧ u.room.ports[linePort l].conditions = p.conditions
      x.receiver.state = .framing →
      (stop = .mark → code = 2 → i.phase = .collecting →
        ∃ u : State, heard u p.counters.garbles ∧ alone u ∧ u.room.lines[l].sender = y) ∧
      (x.decoder.returnSeen = false →
        ((stop = .mark ∧ isFunctionCode code.val = false ∧
            ((entry = some (.print cell) ∧ 32 ≤ cell ∧ cell ≤ 126) ∨ (entry = some .bell ∧ cell = 7) ∨
              (entry = some .nothing ∧ cell = 128))) ∨
          (stop = .mark ∧ code = 4 ∧ cell = 32) ∨ (stop = .space ∧ code ≠ 0 ∧ cell = 128)) →
        let garbles := if cell = 128 then min (p.counters.garbles + 1) 65535 else p.counters.garbles
        let cells := i.collector ++ [cell]
        let stands : Prop := x.settings.expected ≠ [] ∧ ∃ before run after : List Cell,
          cells = before ++ run ++ after ∧ run.map upper = x.settings.expected.map upper
        (i.phase = .calling ∧ 2 ≤ i.tryNumber ∨ i.phase = .collecting ∧ 40 ≤ i.collector.length →
          ∃ u : State, heard u garbles ∧ alone u ∧ u.room.lines[l].sender = y) ∧
        (i.phase = .collecting → i.collector.length < 40 → ¬ stands →
          ∃ u : State, heard u garbles ∧ alone u ∧
            u.room.lines[l].sender = { y with identify := { i with collector := cells } }) ∧
        (i.phase = .collecting → i.collector.length < 40 → stands →
          ∃ u : State, heard u garbles ∧ returnBegins x now .exchangeClosed u.room.lines[l].sender ∧
            u.room.lines[l].sender.machine = y.machine ∧ u.room.lines[l].sender.current = y.current ∧
            u.room.lines[l].sender.identify =
              { i with collector := cells, phase := .closing, outcome := .done, timer := none } ∧
            u.room.ports[linePort l].conditions = { p.conditions with unidentified := false } ∧
            u.room.link.notices = (if p.conditions.unidentified = false ∨ Notice.port (linePort l) ∈ s.room.link.notices
              then s.room.link.notices else s.room.link.notices ++ [.port (linePort l)]) ∧
            (i.request = false → u.room.link.replies = s.room.link.replies) ∧
            (∀ tag : Octet, i.request = true → s.room.link.records = [⟨.line l, tag⟩] →
              s.room.link.replies.length < 8 → s.room.link.waiting = [] →
              u.room.link.records = [] ∧ u.room.link.replies =
                s.room.link.replies ++ [⟨tag, .done, none, .identified cells i.tryNumber⟩])))) ∧
  (∀ (l : Fin 16) (c : SendCode) (t : Nat) (s : State),
      let x := s.room.lines[l]
      let y := x.sender
      let i := y.identify
      let p := s.room.ports[linePort l]
      let now := max s.time.ticks (t + x.settings.charTicks)
      let ends (u : State) : Prop := exec (.sendCharacterEnd l) s = .next u.finish ∧
        u.time = { s.time with ticks := now } ∧ u.part = s.part ∧ u.room.link = s.room.link ∧
        u.room.desks = s.room.desks ∧ (∀ m : Fin 16, m ≠ l → u.room.lines[m] = s.room.lines[m]) ∧
        (∀ q : Fin 24, q ≠ linePort l → u.room.ports[q] = s.room.ports[q]) ∧
        u.room.lines[l].sender.answerPending = false
      let begins (u : State) (case : SendCase) (m : Marker) (next : Next) : Prop :=
        ∀ (a pos : Nat) (rest : List Nat), s.part.markers.letters m = a :: rest →
          y.map.letters.getD a none = some pos → u.room.lines[l].sender.activity = .marker m rest next ∧
            letterBegins case 0 pos now u.room.lines[l].sender
      (y.txChar = some (c, t) → y.halt = .none → y.codes = [] → y.activity = .call → y.stopPending ≠ some .cut →
        exec (.sendCharacterEnd l) s = .next ({ s with
          time := { s.time with ticks := now }
          room := { s.room with lines := s.room.lines.set l { x with sender := { y with
            txChar := none, activity := .idle
            identify := { i with phase := .collecting, timer := some now } } } } } : State).finish) ∧
      (∀ (n : Nat) (fill : FillChar) (refresh own : Bool),
        y.txChar = some (c, t) → y.halt = .none → y.codes = [] → y.activity = .ret .exchangeClosed n fill refresh own →
        y.machine = .identifying → y.stopPending = none → y.side.refresh = false → y.column = 0 →
        let case := if fill = .letters ∧ 1 ≤ n then SendCase.letters else if refresh then .unknown else y.case
        let closed : Identify := { i with phase := .none, request := false, timer := none, outcome := .none }
        (i.outcome = .done → y.answerPending = false →
          (∀ (d : Delivery) (rest : List Cell), y.current = some d →
            s.room.stories[d.slot].text.drop y.readPos = 10 :: rest →
            ∃ u : State, ends u ∧ u.room.ports = s.room.ports ∧ u.room.stories = s.room.stories ∧
              u.room.lines[l].sender.machine = .sending ∧ u.room.lines[l].sender.current = some d ∧
              u.room.lines[l].sender.readPos = y.readPos + 1 ∧ u.room.lines[l].sender.suspension = y.suspension ∧
              u.room.lines[l].sender.txChar = some (.cr, now) ∧ u.room.lines[l].sender.identify = closed) ∧
          (y.current = none → y.openNow = true →
            ∃ u : State, ends u ∧ u.room.ports = s.room.ports ∧ u.room.stories = s.room.stories ∧
              begins u case .vd .cancelDone ∧ u.room.lines[l].sender.machine = .sending ∧
              u.room.lines[l].sender.identify = closed) ∧
          (∀ e : QEntry, y.current = none → y.openNow = false → y.restartVoid = false →
            s.room.firstEligible (linePort l) = some e →
            ∃ u : State, ends u ∧ begins u case .opn .afterOpen ∧ u.room.lines[l].sender.machine = .sending ∧
              u.room.lines[l].sender.current = some ⟨e.slot, e.cls⟩ ∧ u.room.lines[l].sender.readPos = 0 ∧
              u.room.lines[l].sender.identify = closed ∧
              u.room.ports[linePort l] = { p with queue := p.queue.filter fun z => z.slot != e.slot } ∧
              u.room.stories = s.room.stories.set e.slot { s.room.stories[e.slot] with begun := true }) ∧
          (y.current = none → y.openNow = false → NoWork s (linePort l) →
            ∃ u : State, ends u ∧ u.room.ports = s.room.ports ∧ u.room.stories = s.room.stories ∧
              u.room.lines[l].sender.machine = .ready ∧ u.room.lines[l].sender.idleTimer = some now ∧
              u.room.lines[l].sender.txChar = none ∧ u.room.lines[l].sender.case = case ∧
              u.room.lines[l].sender.identify = closed)) ∧
        (i.outcome = .failed → p.conditions.unidentified = true →
          ∃ u : State, ends u ∧ u.room.stories = s.room.stories ∧ u.room.lines[l].sender.machine = .blocked ∧
            u.room.lines[l].sender.current = none ∧ u.room.lines[l].sender.suspension = .empty ∧
            u.room.lines[l].sender.startTimer = none ∧ u.room.lines[l].sender.idleTimer = none ∧
            u.room.lines[l].sender.txChar = none ∧ u.room.lines[l].sender.farOpen = y.farOpen ∧
            u.room.lines[l].sender.restartVoid = (y.restartVoid || decide (0 < y.farOpen)) ∧
            u.room.lines[l].sender.identify = closed ∧
            u.room.ports[linePort l] = { p with queue :=
              let q := match y.current with
                | some d => queueHead ⟨d.slot, d.cls, s.time.seconds⟩ p.queue
                | none => p.queue
              match y.suspension with
                | .held h => queueHead ⟨h.slot, h.cls, s.time.seconds⟩ q
                | _ => q })) ∧
      (i.phase = .collecting → i.timer = some t → i.tryNumber < x.settings.tries → 1 ≤ i.tryNumber → y.identPos = none →
        let now := max s.time.ticks (t + x.settings.window * 100)
        ∃ u : State, exec (.identifyWindowExpiry l) s = .next u.finish ∧ u.time.ticks = now ∧
          u.room.lines[l].sender.identify.phase = .closing ∧ u.room.lines[l].sender.identify.outcome = .failed ∧
          u.room.lines[l].sender.identify.collector = [] ∧ u.room.lines[l].sender.txChar = some (.cr, now) ∧
          u.room.ports[linePort l].conditions = { p.conditions with unidentified := true } ∧
          u.room.stories = s.room.stories ∧
          ∀ tag : Octet, i.request = true → s.room.link.records = [⟨.line l, tag⟩] → s.room.link.replies.length < 8 →
            s.room.link.waiting = [] → u.room.link.replies =
              s.room.link.replies ++ [⟨tag, .failed, none, .identified [] i.tryNumber⟩]))

/-- An IDENT entry received is an answer request. It is ignored on a line whose mode is not BOTH, that is UNIDENTIFIED
or whose answerback is empty, and in OUT, IDENTIFYING and BLOCKED; one that comes while an answerback, its return or a
return sent for it is being sent joins it. In QUIET and READY the sender is READY at once, both timers stopped, and the
answerback's first character begins at column 0, a return otherwise; that the idle timer of one begun from QUIET is
stopped is the model's choice (log entry 51), which R120, R137 and R138 leave open. In STARTING and SENDING the answer
is pending. The characters of an answerback follow one another, a space as code 4, and a return sequence ends it. A
pending answer goes out at the end of a return in SENDING, or of the closing return after DONE, ahead of what comes
next, and at the end of the start wait. After it a story goes on where it stood; a story resumed is current before it,
and an interruption ended by VOID over. An answerback made empty in the return sent ahead of it is not sent, and its
sender is READY. A CUT that came in the answerback after step 7 returns the story and takes the port OUT, told for
nothing open at the far end (R109, R119, R137, R138, R145, R146, R152, R161, R165; log entry 3 is the model's choice,
and entries 10, 14 and 29 are its inferences). -/
def Obligations.AnswersAreSent : Prop :=
  (∀ (l : Fin 16) (code : Fin 32) (s : State),
      let x := s.room.lines[l]
      let y := x.sender
      let p := s.room.ports[linePort l]
      let now := max s.time.ticks (x.receiver.edge + 13 * unitTicks x.settings.rate / 2)
      let asked (u : State) : Prop := exec (.characterReceived l code .mark) s = .next u.finish ∧
        u.time = { s.time with ticks := now } ∧ u.part = s.part ∧ u.room.stories = s.room.stories ∧
        u.room.desks = s.room.desks ∧ u.room.link = s.room.link ∧ u.room.lines[l].decoder = x.decoder ∧
        u.room.lines[l].assembler.window = x.assembler.window ∧
        u.room.lines[l].assembler.current = x.assembler.current ∧
        (∀ m : Fin 16, m ≠ l → u.room.lines[m] = s.room.lines[m]) ∧
        u.room.ports = s.room.ports.set (linePort l) { p with
          counters := { p.counters with characters := min (p.counters.characters + 1) 65535 } }
      x.receiver.state = .framing → isFunctionCode code.val = false →
      (x.decoder.side.copy.half x.decoder.case)[code] = some .ident →
      (x.settings.mode ≠ .both ∨ p.conditions.unidentified = true ∨ x.settings.answerback = [] ∨
          y.machine = .out ∨ y.machine = .identifying ∨ y.machine = .blocked ∨
          (∃ (rest : List Nat) (next : Next), y.activity = .answer rest next) ∨
          (∃ (next : Next) (n : Nat) (fill : FillChar) (refresh own : Bool), y.activity = .ret next n fill refresh own ∧
            (own = true ∨ next = .answerReady ∨ next = .answerStarting)) →
        ∃ u : State, asked u ∧ u.room.lines[l].sender = y) ∧
      (∀ (a : Nat) (more : List Nat), x.settings.answerback = a :: more → x.settings.mode = .both →
        p.conditions.unidentified = false → y.halt = .none → y.activity = .idle ∨ y.activity = .text →
        (y.machine = .starting ∨ y.machine = .sending →
          ∃ u : State, asked u ∧ u.room.lines[l].sender = { y with answerPending := true }) ∧
        (∀ (d : SendCode) (rest : List SendCode), (if a = 32 then [SendCode.space] else (y.encode a).1) = d :: rest →
          y.machine = .quiet ∨ y.machine = .ready → y.column = 0 →
          ∃ u : State, asked u ∧ u.room.lines[l].sender.machine = .ready ∧
            u.room.lines[l].sender.startTimer = none ∧ u.room.lines[l].sender.idleTimer = none ∧
            u.room.lines[l].sender.answerPending = false ∧ u.room.lines[l].sender.txChar = some (d, now) ∧
            u.room.lines[l].sender.codes = rest ∧ u.room.lines[l].sender.activity = .answer more .ready) ∧
        (y.machine = .quiet ∨ y.machine = .ready → y.column ≠ 0 →
          ∃ u : State, asked u ∧ returnBegins x now .answerReady u.room.lines[l].sender ∧
            u.room.lines[l].sender.machine = .ready ∧ u.room.lines[l].sender.startTimer = none ∧
            u.room.lines[l].sender.idleTimer = none))) ∧
  (∀ (l : Fin 16) (c : SendCode) (t : Nat) (s : State),
      let x := s.room.lines[l]
      let y := x.sender
      let p := s.room.ports[linePort l]
      let now := max s.time.ticks (t + x.settings.charTicks)
      let ends (u : State) : Prop := exec (.sendCharacterEnd l) s = .next u.finish ∧
        u.time = { s.time with ticks := now } ∧ OnlyLine s u l ∧
        u.room.lines[l].sender.substitutions = y.substitutions ∧ u.room.lines[l].sender.machine = y.machine
      let answers (u : State) (a : Nat) (more : List Nat) (case : SendCase) (next : Next) : Prop :=
        ∀ (d : SendCode) (rest : List SendCode),
          (if a = 32 then [SendCode.space] else (({ y with case := case } : Sender).encode a).1) = d :: rest →
          u.room.lines[l].sender.txChar = some (d, now) ∧ u.room.lines[l].sender.codes = rest ∧
          u.room.lines[l].sender.activity = .answer more next ∧ u.room.lines[l].sender.answerPending = false
      let stands (u : State) : Prop := u.room.lines[l].sender.current = y.current ∧
        u.room.lines[l].sender.suspension = y.suspension ∧ u.room.lines[l].sender.readPos = y.readPos
      y.txChar = some (c, t) → y.halt = .none → y.codes = [] → y.staged = StagedSend.none → y.side.refresh = false →
      (∀ (a : Nat) (more : List Nat) (next : Next), y.activity = .answer (a :: more) next → y.stopPending = none →
        (if a = 32 then [SendCode.space] else (y.encode a).1) ≠ [] →
        ∃ u : State, ends u ∧ stands u ∧ (y.answerPending = false → answers u a more y.case next)) ∧
      (∀ next : Next, y.activity = .answer [] next → y.stopPending = none → next ≠ .text ∨ y.inWord = false →
        ∃ u : State, ends u ∧ stands u ∧ u.room.lines[l].sender.activity =
            .ret next (min 15 (y.settings.minFill + (y.column * y.settings.allowance + x.settings.charTicks - 1) /
              x.settings.charTicks)) y.settings.fill y.settings.refresh true ∧
          u.room.lines[l].sender.txChar = some (.cr, now) ∧ u.room.lines[l].sender.column = 0) ∧
      (∀ (next : Next) (n : Nat) (fill : FillChar) (refresh own : Bool),
        y.activity = .ret next n fill refresh own →
        let case := if fill = .letters ∧ 1 ≤ n then SendCase.letters else if refresh then .unknown else y.case
        (∀ (a : Nat) (more : List Nat), x.settings.answerback = a :: more → y.answerPending = true →
          y.stopPending ≠ some .cut → p.conditions.unidentified = false →
          (if a = 32 then [SendCode.space] else (({ y with case := case } : Sender).encode a).1) ≠ [] →
          (y.machine = .sending ∧ next ≠ .afterResume ∧ next ≠ .withdrawnDone ∧ next ≠ .heldCancelDone ∧
              next ≠ .cutPoint ∨ y.machine = .identifying ∧ next = .exchangeClosed →
            ∃ u : State, ends u ∧ stands u ∧ answers u a more case next) ∧
          (∀ h : HeldContext, y.machine = .sending → next = .afterResume → y.suspension = .held h →
            ∃ u : State, exec (.sendCharacterEnd l) s = .next u.finish ∧ OnlyLine s u l ∧ answers u a more case .text ∧
              u.room.lines[l].sender.suspension = .empty ∧ u.room.lines[l].sender.current = some ⟨h.slot, h.cls⟩ ∧
              u.room.lines[l].sender.readPos = h.readPos ∧ u.room.lines[l].sender.openNow = true ∧
              u.room.lines[l].sender.substitutions = h.substitutions) ∧
          (y.machine = .sending → next = .withdrawnDone ∨ next = .heldCancelDone →
            ∃ u : State, ends u ∧ answers u a more case next ∧ u.room.lines[l].sender.suspension = .empty ∧
              u.room.lines[l].sender.current = y.current)) ∧
        (∀ (a : Nat) (more : List Nat), x.settings.answerback = a :: more → y.stopPending = none →
          (if a = 32 then [SendCode.space] else (({ y with case := case } : Sender).encode a).1) ≠ [] →
          (next = .answerReady → y.machine = .ready → ∃ u : State, ends u ∧ answers u a more case .ready) ∧
          (next = .answerStarting → y.machine = .starting → ∃ u : State, ends u ∧ answers u a more case .started)) ∧
        (next = .answerReady → y.machine = .ready → y.stopPending = none → x.settings.answerback = [] →
          y.identify.phase ≠ .pending → NoWork s (linePort l) →
          ∃ u : State, exec (.sendCharacterEnd l) s = .next u.finish ∧ u.time = { s.time with ticks := now } ∧
            OnlyLine s u l ∧ u.room.lines[l].sender.machine = .ready ∧ u.room.lines[l].sender.current = none ∧
            u.room.lines[l].sender.substitutions = 0 ∧ u.room.lines[l].sender.txChar = none ∧
            u.room.lines[l].sender.answerPending = false ∧ u.room.lines[l].sender.idleTimer = some now) ∧
        (∀ rest : List Cell, own = true → next = .text → y.machine = .sending → y.stopPending = none →
          y.answerPending = false → y.identify.phase ≠ .pending →
          (∃ d : Delivery, y.current = some d ∧ s.room.stories[d.slot].text.drop y.readPos = 10 :: rest) →
          ∃ u : State, ends u ∧ u.room.lines[l].sender.current = y.current ∧
            u.room.lines[l].sender.readPos = y.readPos + 1 ∧ u.room.lines[l].sender.txChar = some (.cr, now)) ∧
        (∀ d : Delivery, own = true → next = .complete → y.machine = .sending → y.stopPending = some .cut →
          y.current = some d → y.suspension = .empty → y.farOpen = 0 →
          ∃ u : State, exec (.sendCharacterEnd l) s = .next u.finish ∧ u.room.stories = s.room.stories ∧
            u.room.lines[l].sender.machine = .out ∧ u.room.lines[l].sender.current = none ∧
            u.room.ports[linePort l] = { p with
              inService := false, queue := queueHead ⟨d.slot, d.cls, s.time.seconds⟩ p.queue }))) ∧
  (∀ (l : Fin 16) (a t : Nat) (more : List Nat) (s : State),
      let x := s.room.lines[l]
      let y := x.sender
      let now := max s.time.ticks (t + x.settings.startWait * 100)
      y.machine = .starting → y.startTimer = some t → y.answerPending = true → x.settings.answerback = a :: more →
      (∀ (d : SendCode) (rest : List SendCode), (if a = 32 then [SendCode.space] else (y.encode a).1) = d :: rest →
        y.column = 0 →
        ∃ u : State, exec (.startWaitEnd l) s = .next u.finish ∧ OnlyLine s u l ∧ u.time.ticks = now ∧
          u.room.lines[l].sender.machine = .starting ∧ u.room.lines[l].sender.startTimer = none ∧
          u.room.lines[l].sender.answerPending = false ∧ u.room.lines[l].sender.txChar = some (d, now) ∧
          u.room.lines[l].sender.codes = rest ∧ u.room.lines[l].sender.activity = .answer more .started) ∧
      (y.column ≠ 0 →
        ∃ u : State, exec (.startWaitEnd l) s = .next u.finish ∧ OnlyLine s u l ∧ u.time.ticks = now ∧
          returnBegins x now .answerStarting u.room.lines[l].sender ∧ u.room.lines[l].sender.startTimer = none ∧
          u.room.lines[l].sender.answerPending = false))

/-- An ORDINARY or DEFERRED entry whose age, modulo 2^32 seconds, has reached its port's interval of minutes, on a port
out of service: it leaves its class for the tail of the next one up, and its age starts again; nothing else changes. Where
one entry of its class queued at the same moment stands before it, that one joins the tail first, so that the two keep their
order (the model's reading, log entry 25). With an interval of 0, or an URGENT or FLASH entry, or an age short of the
interval, nothing does (R106, R107). -/
def Obligations.DueEntryIsPromoted : Prop :=
  ∀ (p : Fin 24) (before after : List QEntry) (e : QEntry) (s : State),
    let q := s.room.ports[p].queue
    let age := (s.time.seconds - e.at_).toNat
    let up (x : QEntry) : QEntry := ⟨x.slot, if x.cls = .deferred then .ordinary else .urgent, s.time.seconds⟩
    let without (x : QEntry) (l : List QEntry) : List QEntry := l.filter fun y => y.slot != x.slot
    let put (queue : List QEntry) : Answer := .next ({ s with room := { s.room with
      ports := s.room.ports.set p { s.room.ports[p] with queue := queue } } } : State).finish
    q = before ++ e :: after → (∀ y ∈ before ++ after, y.slot ≠ e.slot) →
    ((e.cls = .ordinary ∨ e.cls = .deferred) → s.room.ports[p].promotion ≠ 0 →
      60 * s.room.ports[p].promotion ≤ age →
      (∀ l : Fin 16, p = linePort l → s.room.lines[l].sender.machine = .out) →
      (∀ d : Fin 8, p = deskPort d → s.room.desks[d].state = .out) →
      ((∀ y ∈ before, y.cls = e.cls → y.at_ ≠ e.at_) →
        exec (.entryPromotion p e.slot) s = put (queueTail (up e) (without e q))) ∧
      (∀ (first second : List QEntry) (f : QEntry), before = first ++ f :: second → f.cls = e.cls → f.at_ = e.at_ →
        (∀ y ∈ first ++ second, y.cls = e.cls → y.at_ ≠ e.at_) →
        exec (.entryPromotion p e.slot) s = put (queueTail (up e) (without e (queueTail (up f) (without f q)))))) ∧
    ((e.cls = .flash ∨ e.cls = .urgent ∨ s.room.ports[p].promotion = 0 ∨ age < 60 * s.room.ports[p].promotion) →
      exec (.entryPromotion p e.slot) s = .next s.finish)

/-! ## Desks -/

/-- Typed characters, each counted at the port. A framing error is counted and dropped. A printing character that is
no control code begins a story in IDLE and joins the buffer of fewer than 80 cells in COMPOSING, echoed when echo is
on; at 80 cells a bell sounds instead. The pause code sets the pause flag, starting the stall timer when a story is
being delivered, and changes nothing when the flag is set. The resume code clears it and stops the timer in IDLE,
COMPOSING and DELIVERING, the oldest character of the short list or the next of the story beginning when nothing is
being sent, and changes nothing when it is clear. Any other value in DELIVERING leaves the delivery as it was and
sounds a bell, as the rubout code does in IDLE. In IDLE every other value that is not printing is ignored. In STALLED
only the resume code acts: the pause flag is clear, STALLED gone, the port posted and the desk IDLE, its short list
taken up by a free transmitter; with an entry eligible and a transmitter with nothing to send it takes that entry, the
banner beginning with CR. A bell or echo is discarded when the flag is set or the short list lacks room, and begins at
once on a free transmitter. A desk that RESET TRAFFIC has cleared within a character counts the character and does no
more (the model's inference, log entry 13); the line-start flag follows a character as it begins (its inference, log
entry 10). Nothing else changes (R169, R170, R171, R172, R175, R176, R178, R181, R198). -/
def Obligations.DeskCharactersReceived : Prop :=
  ∀ (d : Fin 8) (c : Fin 128) (s : State),
    let x := s.room.desks[d]
    let p := s.room.ports[deskPort d]
    let counted : Counters := { p.counters with characters := min (p.counters.characters + 1) 65535 }
    let typed (f : Counters → Counters) (y : Desk) : Answer := .next ({ s with room := { s.room with
      desks := s.room.desks.set d y
      ports := s.room.ports.set (deskPort d) { p with counters := f counted } } } : State).finish
    (x.state ≠ .out → exec (.deskCharacterReceived d c .space) s =
      typed (fun k => { k with garbles := min (k.garbles + 1) 65535 }) x) ∧
    (x.state ≠ .out → x.clearing = true → exec (.deskCharacterReceived d c .mark) s = typed id x) ∧
    (x.clearing = false → 32 ≤ c.val → c.val ≤ 126 → c.val ∉ x.settings.codes →
      (x.state = .idle → exec (.deskCharacterReceived d c .mark) s =
        typed id (echoed [c.val] { x with state := .composing, buffer := [c.val], composing := none })) ∧
      (x.state = .composing → x.buffer.length < 80 → exec (.deskCharacterReceived d c .mark) s =
        typed id (echoed [c.val] { x with buffer := x.buffer ++ [c.val] })) ∧
      (x.state = .composing → 80 ≤ x.buffer.length → exec (.deskCharacterReceived d c .mark) s =
        typed id (shortOut [7] x))) ∧
    (x.clearing = false → x.settings.pauseCode = c.val → x.pause = false →
      (x.state = .idle ∨ x.state = .composing → exec (.deskCharacterReceived d c .mark) s =
        typed id { x with pause := true }) ∧
      (∀ place, x.state = .delivering → x.output = .story place → exec (.deskCharacterReceived d c .mark) s =
        typed id { x with pause := true, stall := some s.time.ticks }) ∧
      (x.state = .delivering → (∀ place, x.output ≠ .story place) → exec (.deskCharacterReceived d c .mark) s =
        typed id { x with pause := true })) ∧
    (x.clearing = false → x.state = .idle ∨ x.state = .composing ∨ x.state = .delivering →
      (x.settings.pauseCode = c.val → x.pause = true → exec (.deskCharacterReceived d c .mark) s = typed id x) ∧
      (x.settings.pauseCode ≠ c.val → x.settings.resumeCode = c.val →
        let resumed : Desk := { x with pause := false, stall := none }
        (x.pause = false → exec (.deskCharacterReceived d c .mark) s = typed id x) ∧
        (x.pause = true → x.txChar ≠ none ∨ x.short ≠ [] ∨ x.output = .none →
          exec (.deskCharacterReceived d c .mark) s = typed id (shortSends resumed)) ∧
        (∀ (y : Delivery) (pos : Nat) (b : Cell), x.pause = true → x.txChar = none → x.short = [] →
          x.output = .story (.text pos) → x.current = some y → s.room.stories[y.slot].text[pos]? = some b →
          b ≠ 10 → b ≠ 128 → exec (.deskCharacterReceived d c .mark) s =
            typed id { resumed with output := .story (.text (pos + 1)), txChar := some b, lineStart := false }))) ∧
    (x.clearing = false → x.state = .idle → x.settings.pauseCode ≠ c.val → x.settings.resumeCode ≠ c.val →
      c.val < 32 ∨ 126 < c.val → x.settings.rubout ≠ c.val →
      exec (.deskCharacterReceived d c .mark) s = typed id x) ∧
    (x.clearing = false → x.settings.pauseCode ≠ c.val → x.settings.resumeCode ≠ c.val →
      x.state = .delivering ∨ x.state = .idle ∧ x.settings.rubout = c.val →
      exec (.deskCharacterReceived d c .mark) s = typed id (shortOut [7] x)) ∧
    (x.state = .stalled → x.settings.resumeCode ≠ c.val →
      exec (.deskCharacterReceived d c .mark) s = typed id x) ∧
    (x.clearing = false → x.state = .stalled → x.settings.resumeCode = c.val →
      let notices :=
        if p.conditions.stalled = false ∨ Notice.port (deskPort d) ∈ s.room.link.notices then s.room.link.notices
        else s.room.link.notices ++ [.port (deskPort d)]
      let q : Port := { p with counters := counted, conditions := { p.conditions with stalled := false } }
      (NoWork s (deskPort d) →
        exec (.deskCharacterReceived d c .mark) s = .next ({ s with room := { s.room with
          desks := s.room.desks.set d (shortSends (idled { x with pause := false }))
          ports := s.room.ports.set (deskPort d) q
          link := { s.room.link with notices := notices } } } : State).finish) ∧
      (∀ e : QEntry, x.txChar = none → x.short = [] → x.lineStart = false →
        s.room.firstEligible (deskPort d) = some e →
        ∃ rest : List Nat, exec (.deskCharacterReceived d c .mark) s = .next ({ s with room := { s.room with
          desks := s.room.desks.set d { idled { x with pause := false } with
            state := .delivering, current := some ⟨e.slot, e.cls⟩, output := .story (.banner (10 :: rest))
            txChar := some 13 }
          ports := s.room.ports.set (deskPort d) { q with queue := p.queue.filter fun y => y.slot != e.slot }
          stories := s.room.stories.set e.slot { s.room.stories[e.slot] with begun := true }
          link := { s.room.link with notices := notices } } } : State).finish))

/-- Composing at a desk, each code counted as a character received. CR commits the buffer: the first commit opens a
story in the lowest slot that is FREE with no notice pending, and each writes the buffer and a line end, with the
blocks that takes from the pool, and is echoed as CR and LF; a commit the limit, the pool or the directory refuses
changes nothing but that a bell sounds. The file code commits a buffer that holds a cell, with a bell and no more when
that is refused, and then closes the story, counts it as assembled and hands it on, and the desk is IDLE; the cancel
code discards it ABANDONED, its blocks in the pool, and empties the buffer, CR and LF sent when echo is on and the
line-start flag clear, as an echo is sent; with no story neither does more than make the desk IDLE. The rubout code
takes back the last cell, echoed as BS, SP and BS, or sounds a bell on an empty buffer. A printing character joins the
buffer and is echoed; LF is ignored, and any other value sounds a bell. An echo stands for echo on; it and a bell are
discarded when the pause flag is set or the short list lacks room, and begin at once on a free transmitter (R57, R66,
R68, R75, R102, R170, R178, R179, R180, R181). Told with no keyword entry used, the free count above the threshold by
the blocks taken, no port waiting for store, nothing eligible, and filed stories UNHEADED and routed nowhere. That the
cancel code reads the line-start flag as it is taken (log entry 43) and that the flag follows a character as it begins
(log entry 10) are the model's inferences; that its CR and LF are an echo, and so discarded as one, is its choice (log
entry 53). -/
def Obligations.DeskComposes : Prop :=
  ∀ (d : Fin 8) (v : Fin 128) (s : State),
    let x := s.room.desks[d]
    let p := s.room.ports[deskPort d]
    let counted : Port := { p with counters := { p.counters with characters := min (p.counters.characters + 1) 65535 } }
    let assembled : Port := { counted with counters := { counted.counters with
      assembled := min (p.counters.assembled + 1) 65535 } }
    let key := exec (.deskCharacterReceived d v .mark) s
    let typed (y : Desk) : Answer := .next ({ s with room := { s.room with
      desks := s.room.desks.set d y, ports := s.room.ports.set (deskPort d) counted } } : State).finish
    let kept (u : State) : Prop := u.time = s.time ∧ u.part = s.part ∧ u.room.lines = s.room.lines ∧
      (∀ e : Fin 8, e ≠ d → u.room.desks[e] = s.room.desks[e]) ∧
      ∀ q : Fin 24, q ≠ deskPort d → u.room.ports[q] = s.room.ports[q]
    let fresh : Story := { Story.blank with
      state := .assembling, origin := some (.desk d), opened := some s.time.clock, limit := x.settings.maxLength }
    let written (old : Story) (chain : List Nat) : Story := { old with
      text := old.text ++ x.buffer ++ [10], textLines := old.textLines + 1, chain := chain }
    let grows (u : State) (old : Story) (chain : List Nat) : Prop := ∃ blocks : List Nat,
      blocks.length = blocksFor (old.text.length + x.buffer.length + 1) - blocksFor old.text.length ∧
      chain = old.chain ++ blocks ∧ (u.room.pool ++ blocks).Perm s.room.pool ∧
      u.room.freeCount + blocks.length = s.room.freeCount
    let committed (u : State) (i : Fin 256) (old : Story) : Prop := ∃ chain : List Nat, grows u old chain ∧
      u.room.stories = s.room.stories.set i (written old chain) ∧
      u.room.link = s.room.link ∧ u.room.ports[deskPort d] = counted ∧
      u.room.desks[d] = echoed [13, 10] { x with buffer := [], composing := some i }
    let filed (u : State) (i : Fin 256) (old : Story) : Prop := ∃ chain : List Nat, grows u old chain ∧
      u.room.stories = s.room.stories.set i { written old chain with
        cause := some .closed, closed := true, header := none, effective := .ordinary, state := .settled
        filed := some s.time.clock, noticePending := true } ∧
      u.room.settled = s.room.settled ++ [i] ∧ u.room.filedCount = min (s.room.filedCount + 1) 65535 ∧
      u.room.link = { s.room.link with
        notices := postStoryList i StoryKinds.ofSettled (postStoryList i StoryKinds.ofFiled s.room.link.notices) } ∧
      u.room.ports[deskPort d] = assembled ∧ u.room.desks[d] = shortSends (echoed [13, 10] (idled x))
    let lowest (i : Fin 256) : Prop := s.room.stories[i].state = .free ∧ s.room.stories[i].noticePending = false ∧
      ∀ j : Fin 256, j < i → s.room.stories[j].state ≠ .free ∨ s.room.stories[j].noticePending = true
    let fits (old : Story) : Prop := old.text.length + x.buffer.length + 1 ≤ old.limit ∧
      s.part.threshold + (blocksFor (old.text.length + x.buffer.length + 1) - blocksFor old.text.length) ≤ s.room.freeCount
    let refusedCommit : Prop :=
      (∃ i : Fin 256, x.composing = some i ∧ (s.room.stories[i].limit <
          s.room.stories[i].text.length + x.buffer.length + 1 ∨
        s.room.freeCount < blocksFor (s.room.stories[i].text.length + x.buffer.length + 1) -
          blocksFor s.room.stories[i].text.length)) ∨
      (x.composing = none ∧
        ((∀ j : Fin 256, s.room.stories[j].state ≠ .free ∨ s.room.stories[j].noticePending = true) ∨
          x.settings.maxLength < x.buffer.length + 1 ∨ s.room.freeCount < blocksFor (x.buffer.length + 1)))
    x.clearing = false → x.state = .composing → s.room.freeCount = s.room.pool.length →
    s.part.keywords = Vector.replicate 24 none → s.room.waitList = Vector.replicate 16 false →
    NoWork s (deskPort d) → v.val ≠ x.settings.pauseCode → v.val ≠ x.settings.resumeCode → (∀ c ∈ x.buffer, c ≠ 10) →
    (v.val = 13 → v.val ∉ x.settings.codes →
      (∀ i : Fin 256, x.composing = none → lowest i → fits fresh →
        ∃ u : State, key = .next u.finish ∧ kept u ∧ committed u i fresh) ∧
      (∀ i : Fin 256, x.composing = some i → fits s.room.stories[i] →
        ∃ u : State, key = .next u.finish ∧ kept u ∧ committed u i s.room.stories[i]) ∧
      (refusedCommit → key = typed (shortOut [7] x))) ∧
    (v.val = x.settings.fileCode →
      (x.buffer = [] → x.composing = none → key = typed (shortSends (idled x))) ∧
      (∀ (i : Fin 256) (scan : Scan), x.buffer = [] → x.composing = some i → s.room.stories[i].text ≠ [] →
        s.room.stories[i].origin = some (.desk d) → s.room.scans[i] = some scan →
        s.room.stories[i].keywords = emptySet → s.room.stories[i].pendingSet = emptySet →
        parseHeader s.room.stories[i].text = none → s.part.defaultSet = emptySet →
        s.part.threshold ≤ s.room.freeCount →
        key = .next ({ s with room := { s.room with
          desks := s.room.desks.set d (shortSends (idled x))
          ports := s.room.ports.set (deskPort d) assembled
          stories := s.room.stories.set i { s.room.stories[i] with
            cause := some .closed, closed := true, header := none, effective := .ordinary, state := .settled
            filed := some s.time.clock, noticePending := true }
          scans := s.room.scans.set i none
          settled := s.room.settled ++ [i]
          filedCount := min (s.room.filedCount + 1) 65535
          link := { s.room.link with
            notices :=
              postStoryList i StoryKinds.ofSettled (postStoryList i StoryKinds.ofFiled s.room.link.notices) } } } : State).finish) ∧
      (x.buffer ≠ [] → s.part.defaultSet = emptySet →
        (∀ i : Fin 256, x.composing = none → lowest i → fits fresh → parseHeader (x.buffer ++ [10]) = none →
          (∀ e ∈ p.queue, e.slot ≠ i) →
          ∃ u : State, key = .next u.finish ∧ kept u ∧ filed u i fresh) ∧
        (∀ i : Fin 256, x.composing = some i → fits s.room.stories[i] →
          s.room.stories[i].origin = some (.desk d) → s.room.stories[i].keywords = emptySet →
          s.room.stories[i].pendingSet = emptySet →
          parseHeader (s.room.stories[i].text ++ x.buffer ++ [10]) = none →
          ∃ u : State, key = .next u.finish ∧ kept u ∧ filed u i s.room.stories[i]) ∧
        (refusedCommit → key = typed (shortOut [7] x)))) ∧
    (v.val = x.settings.cancelCode → v.val ≠ x.settings.fileCode →
      let left := shortSends (if x.lineStart = true then idled x else echoed [13, 10] (idled x))
      (x.composing = none → key = typed left) ∧
      (∀ i : Fin 256, x.composing = some i → (∀ e ∈ p.queue, e.slot ≠ i) →
        ∃ u : State, key = .next u.finish ∧ kept u ∧ u.room.desks[d] = left ∧ u.room.ports[deskPort d] = counted ∧
          u.room.stories[i].state = .free ∧ u.room.stories[i].reason = some .abandoned ∧
          u.room.stories[i].chain = [] ∧ u.room.pool = s.room.pool ++ s.room.stories[i].chain ∧
          u.room.link.notices = postStoryList i StoryKinds.ofDiscarded s.room.link.notices ∧
          ∀ j : Fin 256, j ≠ i → u.room.stories[j] = s.room.stories[j])) ∧
    (v.val = x.settings.rubout → v.val ≠ x.settings.fileCode → v.val ≠ x.settings.cancelCode →
      (∀ (b : List Cell) (c : Cell), x.buffer = b ++ [c] → key = typed (echoed [8, 32, 8] { x with buffer := b })) ∧
      (x.buffer = [] → key = typed (shortOut [7] x))) ∧
    (v.val ∉ x.settings.codes →
      (32 ≤ v.val → v.val ≤ 126 → x.buffer.length < 80 →
        key = typed (echoed [v.val] { x with buffer := x.buffer ++ [v.val] })) ∧
      (v.val = 10 → key = typed x) ∧
      (v.val ≠ 10 → v.val ≠ 13 → v.val < 32 ∨ 126 < v.val → key = typed (shortOut [7] x)))

/-- The end of a desk character: the oldest character of the short output list begins, the line-start flag following it.
At the end of a delivery's last character the story is sent: the counter goes up, the port goes from pending to done, and
the desk is IDLE, told for nothing else to send and a story pending elsewhere. When the stall timer expires the desk is
STALLED and paused, the delivery abandoned, the port missed and STALLED in its condition set (R110, R170, R174, R176). A
desk that RESET TRAFFIC has cleared within a character is IDLE at its end, told for nothing eligible and an empty short
output list (R182; log entry 13). The line-start flag changes as a character begins (the model's inference, log entry 10); the
tick the counter is moved up to is its choice (log entry 3). -/
def Obligations.DeskSendsAndStalls : Prop :=
  ∀ (d : Fin 8) (s : State),
    let x := s.room.desks[d]
    let p := s.room.ports[deskPort d]
    (∀ (c old : Nat) (rest : List Nat), x.clearing = false → x.txChar = some old → x.state ≠ .out →
      x.pause = false → x.output = .none → x.short = c :: rest →
      exec (.deskCharacterSent d) s = .next ({ s with room := { s.room with
        desks := s.room.desks.set d { x with short := rest, txChar := some c, lineStart := c == 10 } } } :
          State).finish) ∧
    (∀ old : Nat, x.clearing = true → x.txChar = some old → x.short = [] → NoWork s (deskPort d) →
      exec (.deskCharacterSent d) s = .next ({ s with room := { s.room with
        desks := s.room.desks.set d { x with
          state := .idle, output := .none, current := none, stall := none, buffer := [], composing := none
          clearing := false, txChar := none } } } : State).finish) ∧
    (∀ (old : Nat) (y : Delivery) (q : Fin 24), x.clearing = false → x.txChar = some old → x.output = .story .finished →
      x.current = some y → x.short = [] → s.room.stories[y.slot].pendingSet[q] = true → q ≠ deskPort d →
      (∀ e ∈ p.queue, s.room.stories[e.slot].held = true) →
      ∃ u : State, exec (.deskCharacterSent d) s = .next u.finish ∧ u.room.desks[d].state = .idle ∧
        u.room.desks[d].current = none ∧ u.room.desks[d].txChar = none ∧
        u.room.ports = s.room.ports.set (deskPort d) { p with
          counters := { p.counters with sent := min (p.counters.sent + 1) 65535 } } ∧
        u.room.stories[y.slot].pendingSet = s.room.stories[y.slot].pendingSet.set (deskPort d) false ∧
        u.room.stories[y.slot].doneSet = s.room.stories[y.slot].doneSet.set (deskPort d) true ∧
        u.room.stories[y.slot].state = s.room.stories[y.slot].state ∧
        (∀ j : Fin 256, j ≠ y.slot → u.room.stories[j] = s.room.stories[j]) ∧ u.room.lines = s.room.lines) ∧
    (∀ (t : Nat) (y : Delivery) (q : Fin 24), x.state = .delivering → x.stall = some t → x.current = some y →
      s.room.stories[y.slot].pendingSet[q] = true → q ≠ deskPort d →
      ∃ u : State, exec (.stallExpiry d) s = .next u.finish ∧
        u.time.ticks = max s.time.ticks (t + x.settings.stallLimit * 100000) ∧
        u.room.desks[d].state = .stalled ∧ u.room.desks[d].pause = true ∧ u.room.desks[d].current = none ∧
        u.room.desks[d].output = .none ∧ u.room.desks[d].stall = none ∧
        u.room.ports[deskPort d].conditions = { p.conditions with stalled := true } ∧
        u.room.stories[y.slot].pendingSet = s.room.stories[y.slot].pendingSet.set (deskPort d) false ∧
        u.room.stories[y.slot].missedSet = s.room.stories[y.slot].missedSet.set (deskPort d) true ∧
        (∀ j : Fin 256, j ≠ y.slot → u.room.stories[j] = s.room.stories[j]) ∧ u.room.lines = s.room.lines)

/-- What a desk types. A banner is the slot in three digits, the letter of the story's effective class, source, serial
in four digits and category, or dashes for an UNHEADED story, and the hours and minutes of the filed time, one space
between. From the beginning of a delivery its characters are CR and LF when the line-start flag is clear, the banner,
CR and LF, the text cell by cell, a line end as CR and LF and a garble mark as the desk's substitute, CR and LF when
the text left the flag clear, and CR and LF for the blank line; no line is folded. A withdrawal line is CR and LF when
the flag is clear, WITHDRAWN, the slot, CR and LF. At the end of each character, no short output waiting, the next one
begins. At the end of a withdrawal line the first eligible entry is taken, and its banner, of the record as it stands,
begins unless the pause flag is set, which starts the stall timer. A STORY CANCEL of the current delivery, pending
nowhere else, makes the output the withdrawal line, the story settled and missed there, told for a free count at the
threshold or above. The pin carries each character as a space, seven elements with the least significant first, and a
mark, and rests at mark (R108, R110, R112, R116, R168, R170, R171, R172, R173, R177; the desk's durations are log
entry 3). That the flag changes as a character begins (log entry 10), and that the leading CR and LF are decided by it
as the first character is about to begin, short output and a stall before it or not (log entries 16 and 44), are the
model's inferences. -/
def Obligations.DeskDeliveriesAreTyped : Prop :=
  (∀ (slot : Fin 256) (x : Story) (t : Stamp), x.filed = some t → t.seconds ≤ 86399 →
      let two (n : Nat) : List Nat := [48 + n / 10, 48 + n % 10]
      let middle : List Nat := match x.header with
        | some h => h.source ++ 32 :: two (h.serial / 100) ++ two (h.serial % 100) ++ 32 :: h.category
        | none => [45, 45, 45, 32, 45, 45, 45, 45, 32, 45, 45]
      (∀ h : Header, x.header = some h → h.serial ≤ 9999) →
      bannerText slot x = (48 + slot.val / 100) :: two (slot.val % 100) ++
        [32, (match x.effective with | .flash => 70 | .urgent => 85 | .ordinary => 79 | .deferred => 68), 32] ++ middle ++
        32 :: two (t.seconds / 3600) ++ 58 :: two (t.seconds % 3600 / 60)) ∧
  (∀ (x : Desk) (slot : Fin 256) (banner : List Nat) (text : List Cell), x.settings.garble ≠ 10 →
      let run (n : Nat) (y : Desk) : List Nat × Desk := (List.range n).foldl
        (fun z _ => match z.2.nextOutput text with
          | some (c, output) => (z.1 ++ [c], { z.2 with output := output, txChar := some c, lineStart := c == 10 })
          | none => z) ([], y)
      let lead : List Nat := if x.lineStart then [] else [13, 10]
      let body : List Nat := text.flatMap fun c => if c = 10 then [13, 10] else if c = 128 then [x.settings.garble] else [c]
      let story := lead ++ banner ++ [13, 10] ++ body ++ (if text = [] ∨ text.getLast? = some 10 then [] else [13, 10]) ++ [13, 10]
      let number : List Nat := [48 + slot.val / 100, 48 + slot.val / 10 % 10, 48 + slot.val % 10]
      let withdrawal := lead ++ [87, 73, 84, 72, 68, 82, 65, 87, 78, 32] ++ number ++ [13, 10]
      ((∀ c ∈ banner, c ≠ 10) →
        run story.length { x with output := .story (.bannerStart (banner ++ [13, 10])) } =
          (story, { x with output := .story .finished, txChar := some 10, lineStart := true })) ∧
      run withdrawal.length { x with output := .withdrawalStart (withdrawnText slot ++ [13, 10]) } =
        (withdrawal, { x with output := .withdrawal [], txChar := some 10, lineStart := true }) ∧
      (x.txChar = none → ∀ element : Nat, x.sendPin element = .mark) ∧
      (∀ c : Nat, x.txChar = some c → x.sendPin 0 = .space ∧ x.sendPin 8 = .mark ∧
        ∀ bit : Fin 7, x.sendPin (bit.val + 1) = if c.testBit bit.val then .mark else .space)) ∧
  (∀ (d : Fin 8) (s : State),
      let x := s.room.desks[d]
      let p := s.room.ports[deskPort d]
      let opens (z : Desk) (chars : List Nat) (start rest : List Nat → DeskOutput) : Desk :=
        if z.pause = true ∨ z.txChar ≠ none then { z with output := start chars }
        else match z.short with
          | c :: more => { z with output := start chars, short := more, txChar := some c, lineStart := c == 10 }
          | [] =>
            let all := if z.lineStart then chars else 13 :: 10 :: chars
            { z with output := rest all.tail, txChar := all.head?, lineStart := false }
      (∀ (old c : Nat) (output : DeskOutput), x.txChar = some old → x.clearing = false → x.state ≠ .out →
        x.pause = false → x.short = [] →
        x.nextOutput (x.current.elim [] fun y => s.room.stories[y.slot].text) = some (c, output) →
        exec (.deskCharacterSent d) s = .next ({ s with room := { s.room with
          desks := s.room.desks.set d { x with
            output := output, txChar := some c, lineStart := c == 10 } } } : State).finish) ∧
      (∀ (old : Nat) (e : QEntry), x.txChar = some old → x.clearing = false → x.output = .withdrawal [] →
        s.room.firstEligible (deskPort d) = some e →
        exec (.deskCharacterSent d) s = .next ({ s with room := { s.room with
          desks := s.room.desks.set d (opens { x with
              state := .delivering, current := some ⟨e.slot, e.cls⟩, txChar := none, buffer := [], composing := none
              stall := if x.pause then some s.time.ticks else none }
            (bannerText e.slot s.room.stories[e.slot] ++ [13, 10])
            (fun chars => .story (.bannerStart chars)) (fun rest => .story (.banner rest)))
          ports := s.room.ports.set (deskPort d) { p with queue := p.queue.filter fun z => z.slot != e.slot }
          stories := s.room.stories.set e.slot { s.room.stories[e.slot] with begun := true } } } : State).finish) ∧
      (∀ (tag : Octet) (y : Delivery), Takes s → x.state = .delivering → x.current = some y →
        s.room.stories[y.slot].state = .filed → setMembers s.room.stories[y.slot].pendingSet = [deskPort d] →
        s.part.threshold ≤ s.room.freeCount →
        exec (.storyCancel tag y.slot.val) s = answered { s with room := { s.room with
          desks := s.room.desks.set d (opens { x with current := none, stall := none } (withdrawnText y.slot ++ [13, 10])
            .withdrawalStart .withdrawal)
          ports := s.room.ports.set (deskPort d) { p with queue := p.queue.filter fun z => z.slot != y.slot }
          stories := s.room.stories.set y.slot { s.room.stories[y.slot] with
            state := .settled
            pendingSet := s.room.stories[y.slot].pendingSet.set (deskPort d) false
            doneSet := s.room.stories[y.slot].doneSet.set (deskPort d) false
            missedSet := s.room.stories[y.slot].missedSet.set (deskPort d) true
            noticePending := true }
          settled := s.room.settled ++ [y.slot]
          link := { s.room.link with
            notices := postStoryList y.slot StoryKinds.ofSettled
              (postStoryList y.slot StoryKinds.ofMissed s.room.link.notices) } } } tag (.ports 1)))
end

