-- ==== Sys2Proof/Laws/State.lean ====
section
/-! SUPPORT. One lemma for each field under each update of the room and of the state, true by unfolding, so that no later
proof unfolds an update. -/

namespace Sys2Proof.Machine

variable (r : Room)

/-! ### `modLine` -/

@[simp] theorem Room.modLine_ports (l : Fin 16) (f : Line → Line) : (r.modLine l f).ports = r.ports := rfl
@[simp] theorem Room.modLine_desks (l : Fin 16) (f : Line → Line) : (r.modLine l f).desks = r.desks := rfl
@[simp] theorem Room.modLine_stories (l : Fin 16) (f : Line → Line) : (r.modLine l f).stories = r.stories := rfl
@[simp] theorem Room.modLine_scans (l : Fin 16) (f : Line → Line) : (r.modLine l f).scans = r.scans := rfl
@[simp] theorem Room.modLine_pool (l : Fin 16) (f : Line → Line) : (r.modLine l f).pool = r.pool := rfl
@[simp] theorem Room.modLine_freeCount (l : Fin 16) (f : Line → Line) : (r.modLine l f).freeCount = r.freeCount := rfl
@[simp] theorem Room.modLine_picks (l : Fin 16) (f : Line → Line) : (r.modLine l f).picks = r.picks := rfl
@[simp] theorem Room.modLine_waitList (l : Fin 16) (f : Line → Line) : (r.modLine l f).waitList = r.waitList := rfl
@[simp] theorem Room.modLine_settled (l : Fin 16) (f : Line → Line) : (r.modLine l f).settled = r.settled := rfl
@[simp] theorem Room.modLine_filedCount (l : Fin 16) (f : Line → Line) : (r.modLine l f).filedCount = r.filedCount := rfl
@[simp] theorem Room.modLine_stack (l : Fin 16) (f : Line → Line) : (r.modLine l f).stack = r.stack := rfl
@[simp] theorem Room.modLine_search (l : Fin 16) (f : Line → Line) : (r.modLine l f).search = r.search := rfl
@[simp] theorem Room.modLine_link (l : Fin 16) (f : Line → Line) : (r.modLine l f).link = r.link := rfl

/-! ### `modReceiver` -/

@[simp] theorem Room.modReceiver_ports (l : Fin 16) (f : Receiver → Receiver) : (r.modReceiver l f).ports = r.ports := rfl
@[simp] theorem Room.modReceiver_desks (l : Fin 16) (f : Receiver → Receiver) : (r.modReceiver l f).desks = r.desks := rfl
@[simp] theorem Room.modReceiver_stories (l : Fin 16) (f : Receiver → Receiver) : (r.modReceiver l f).stories = r.stories := rfl
@[simp] theorem Room.modReceiver_scans (l : Fin 16) (f : Receiver → Receiver) : (r.modReceiver l f).scans = r.scans := rfl
@[simp] theorem Room.modReceiver_pool (l : Fin 16) (f : Receiver → Receiver) : (r.modReceiver l f).pool = r.pool := rfl
@[simp] theorem Room.modReceiver_freeCount (l : Fin 16) (f : Receiver → Receiver) : (r.modReceiver l f).freeCount = r.freeCount := rfl
@[simp] theorem Room.modReceiver_picks (l : Fin 16) (f : Receiver → Receiver) : (r.modReceiver l f).picks = r.picks := rfl
@[simp] theorem Room.modReceiver_waitList (l : Fin 16) (f : Receiver → Receiver) : (r.modReceiver l f).waitList = r.waitList := rfl
@[simp] theorem Room.modReceiver_settled (l : Fin 16) (f : Receiver → Receiver) : (r.modReceiver l f).settled = r.settled := rfl
@[simp] theorem Room.modReceiver_filedCount (l : Fin 16) (f : Receiver → Receiver) : (r.modReceiver l f).filedCount = r.filedCount := rfl
@[simp] theorem Room.modReceiver_stack (l : Fin 16) (f : Receiver → Receiver) : (r.modReceiver l f).stack = r.stack := rfl
@[simp] theorem Room.modReceiver_search (l : Fin 16) (f : Receiver → Receiver) : (r.modReceiver l f).search = r.search := rfl
@[simp] theorem Room.modReceiver_link (l : Fin 16) (f : Receiver → Receiver) : (r.modReceiver l f).link = r.link := rfl

/-! ### `modDecoder` -/

@[simp] theorem Room.modDecoder_ports (l : Fin 16) (f : Decoder → Decoder) : (r.modDecoder l f).ports = r.ports := rfl
@[simp] theorem Room.modDecoder_desks (l : Fin 16) (f : Decoder → Decoder) : (r.modDecoder l f).desks = r.desks := rfl
@[simp] theorem Room.modDecoder_stories (l : Fin 16) (f : Decoder → Decoder) : (r.modDecoder l f).stories = r.stories := rfl
@[simp] theorem Room.modDecoder_scans (l : Fin 16) (f : Decoder → Decoder) : (r.modDecoder l f).scans = r.scans := rfl
@[simp] theorem Room.modDecoder_pool (l : Fin 16) (f : Decoder → Decoder) : (r.modDecoder l f).pool = r.pool := rfl
@[simp] theorem Room.modDecoder_freeCount (l : Fin 16) (f : Decoder → Decoder) : (r.modDecoder l f).freeCount = r.freeCount := rfl
@[simp] theorem Room.modDecoder_picks (l : Fin 16) (f : Decoder → Decoder) : (r.modDecoder l f).picks = r.picks := rfl
@[simp] theorem Room.modDecoder_waitList (l : Fin 16) (f : Decoder → Decoder) : (r.modDecoder l f).waitList = r.waitList := rfl
@[simp] theorem Room.modDecoder_settled (l : Fin 16) (f : Decoder → Decoder) : (r.modDecoder l f).settled = r.settled := rfl
@[simp] theorem Room.modDecoder_filedCount (l : Fin 16) (f : Decoder → Decoder) : (r.modDecoder l f).filedCount = r.filedCount := rfl
@[simp] theorem Room.modDecoder_stack (l : Fin 16) (f : Decoder → Decoder) : (r.modDecoder l f).stack = r.stack := rfl
@[simp] theorem Room.modDecoder_search (l : Fin 16) (f : Decoder → Decoder) : (r.modDecoder l f).search = r.search := rfl
@[simp] theorem Room.modDecoder_link (l : Fin 16) (f : Decoder → Decoder) : (r.modDecoder l f).link = r.link := rfl

/-! ### `modAssembler` -/

@[simp] theorem Room.modAssembler_ports (l : Fin 16) (f : Assembler → Assembler) : (r.modAssembler l f).ports = r.ports := rfl
@[simp] theorem Room.modAssembler_desks (l : Fin 16) (f : Assembler → Assembler) : (r.modAssembler l f).desks = r.desks := rfl
@[simp] theorem Room.modAssembler_stories (l : Fin 16) (f : Assembler → Assembler) : (r.modAssembler l f).stories = r.stories := rfl
@[simp] theorem Room.modAssembler_scans (l : Fin 16) (f : Assembler → Assembler) : (r.modAssembler l f).scans = r.scans := rfl
@[simp] theorem Room.modAssembler_pool (l : Fin 16) (f : Assembler → Assembler) : (r.modAssembler l f).pool = r.pool := rfl
@[simp] theorem Room.modAssembler_freeCount (l : Fin 16) (f : Assembler → Assembler) : (r.modAssembler l f).freeCount = r.freeCount := rfl
@[simp] theorem Room.modAssembler_picks (l : Fin 16) (f : Assembler → Assembler) : (r.modAssembler l f).picks = r.picks := rfl
@[simp] theorem Room.modAssembler_waitList (l : Fin 16) (f : Assembler → Assembler) : (r.modAssembler l f).waitList = r.waitList := rfl
@[simp] theorem Room.modAssembler_settled (l : Fin 16) (f : Assembler → Assembler) : (r.modAssembler l f).settled = r.settled := rfl
@[simp] theorem Room.modAssembler_filedCount (l : Fin 16) (f : Assembler → Assembler) : (r.modAssembler l f).filedCount = r.filedCount := rfl
@[simp] theorem Room.modAssembler_stack (l : Fin 16) (f : Assembler → Assembler) : (r.modAssembler l f).stack = r.stack := rfl
@[simp] theorem Room.modAssembler_search (l : Fin 16) (f : Assembler → Assembler) : (r.modAssembler l f).search = r.search := rfl
@[simp] theorem Room.modAssembler_link (l : Fin 16) (f : Assembler → Assembler) : (r.modAssembler l f).link = r.link := rfl

/-! ### `modSender` -/

@[simp] theorem Room.modSender_ports (l : Fin 16) (f : Sender → Sender) : (r.modSender l f).ports = r.ports := rfl
@[simp] theorem Room.modSender_desks (l : Fin 16) (f : Sender → Sender) : (r.modSender l f).desks = r.desks := rfl
@[simp] theorem Room.modSender_stories (l : Fin 16) (f : Sender → Sender) : (r.modSender l f).stories = r.stories := rfl
@[simp] theorem Room.modSender_scans (l : Fin 16) (f : Sender → Sender) : (r.modSender l f).scans = r.scans := rfl
@[simp] theorem Room.modSender_pool (l : Fin 16) (f : Sender → Sender) : (r.modSender l f).pool = r.pool := rfl
@[simp] theorem Room.modSender_freeCount (l : Fin 16) (f : Sender → Sender) : (r.modSender l f).freeCount = r.freeCount := rfl
@[simp] theorem Room.modSender_picks (l : Fin 16) (f : Sender → Sender) : (r.modSender l f).picks = r.picks := rfl
@[simp] theorem Room.modSender_waitList (l : Fin 16) (f : Sender → Sender) : (r.modSender l f).waitList = r.waitList := rfl
@[simp] theorem Room.modSender_settled (l : Fin 16) (f : Sender → Sender) : (r.modSender l f).settled = r.settled := rfl
@[simp] theorem Room.modSender_filedCount (l : Fin 16) (f : Sender → Sender) : (r.modSender l f).filedCount = r.filedCount := rfl
@[simp] theorem Room.modSender_stack (l : Fin 16) (f : Sender → Sender) : (r.modSender l f).stack = r.stack := rfl
@[simp] theorem Room.modSender_search (l : Fin 16) (f : Sender → Sender) : (r.modSender l f).search = r.search := rfl
@[simp] theorem Room.modSender_link (l : Fin 16) (f : Sender → Sender) : (r.modSender l f).link = r.link := rfl

/-! ### `modIdentify` -/

@[simp] theorem Room.modIdentify_ports (l : Fin 16) (f : Identify → Identify) : (r.modIdentify l f).ports = r.ports := rfl
@[simp] theorem Room.modIdentify_desks (l : Fin 16) (f : Identify → Identify) : (r.modIdentify l f).desks = r.desks := rfl
@[simp] theorem Room.modIdentify_stories (l : Fin 16) (f : Identify → Identify) : (r.modIdentify l f).stories = r.stories := rfl
@[simp] theorem Room.modIdentify_scans (l : Fin 16) (f : Identify → Identify) : (r.modIdentify l f).scans = r.scans := rfl
@[simp] theorem Room.modIdentify_pool (l : Fin 16) (f : Identify → Identify) : (r.modIdentify l f).pool = r.pool := rfl
@[simp] theorem Room.modIdentify_freeCount (l : Fin 16) (f : Identify → Identify) : (r.modIdentify l f).freeCount = r.freeCount := rfl
@[simp] theorem Room.modIdentify_picks (l : Fin 16) (f : Identify → Identify) : (r.modIdentify l f).picks = r.picks := rfl
@[simp] theorem Room.modIdentify_waitList (l : Fin 16) (f : Identify → Identify) : (r.modIdentify l f).waitList = r.waitList := rfl
@[simp] theorem Room.modIdentify_settled (l : Fin 16) (f : Identify → Identify) : (r.modIdentify l f).settled = r.settled := rfl
@[simp] theorem Room.modIdentify_filedCount (l : Fin 16) (f : Identify → Identify) : (r.modIdentify l f).filedCount = r.filedCount := rfl
@[simp] theorem Room.modIdentify_stack (l : Fin 16) (f : Identify → Identify) : (r.modIdentify l f).stack = r.stack := rfl
@[simp] theorem Room.modIdentify_search (l : Fin 16) (f : Identify → Identify) : (r.modIdentify l f).search = r.search := rfl
@[simp] theorem Room.modIdentify_link (l : Fin 16) (f : Identify → Identify) : (r.modIdentify l f).link = r.link := rfl

/-! ### `modSettings` -/

@[simp] theorem Room.modSettings_ports (l : Fin 16) (f : LineSettings → LineSettings) : (r.modSettings l f).ports = r.ports := rfl
@[simp] theorem Room.modSettings_desks (l : Fin 16) (f : LineSettings → LineSettings) : (r.modSettings l f).desks = r.desks := rfl
@[simp] theorem Room.modSettings_stories (l : Fin 16) (f : LineSettings → LineSettings) : (r.modSettings l f).stories = r.stories := rfl
@[simp] theorem Room.modSettings_scans (l : Fin 16) (f : LineSettings → LineSettings) : (r.modSettings l f).scans = r.scans := rfl
@[simp] theorem Room.modSettings_pool (l : Fin 16) (f : LineSettings → LineSettings) : (r.modSettings l f).pool = r.pool := rfl
@[simp] theorem Room.modSettings_freeCount (l : Fin 16) (f : LineSettings → LineSettings) : (r.modSettings l f).freeCount = r.freeCount := rfl
@[simp] theorem Room.modSettings_picks (l : Fin 16) (f : LineSettings → LineSettings) : (r.modSettings l f).picks = r.picks := rfl
@[simp] theorem Room.modSettings_waitList (l : Fin 16) (f : LineSettings → LineSettings) : (r.modSettings l f).waitList = r.waitList := rfl
@[simp] theorem Room.modSettings_settled (l : Fin 16) (f : LineSettings → LineSettings) : (r.modSettings l f).settled = r.settled := rfl
@[simp] theorem Room.modSettings_filedCount (l : Fin 16) (f : LineSettings → LineSettings) : (r.modSettings l f).filedCount = r.filedCount := rfl
@[simp] theorem Room.modSettings_stack (l : Fin 16) (f : LineSettings → LineSettings) : (r.modSettings l f).stack = r.stack := rfl
@[simp] theorem Room.modSettings_search (l : Fin 16) (f : LineSettings → LineSettings) : (r.modSettings l f).search = r.search := rfl
@[simp] theorem Room.modSettings_link (l : Fin 16) (f : LineSettings → LineSettings) : (r.modSettings l f).link = r.link := rfl

/-! ### `modDesk` -/

@[simp] theorem Room.modDesk_ports (d : Fin 8) (f : Desk → Desk) : (r.modDesk d f).ports = r.ports := rfl
@[simp] theorem Room.modDesk_lines (d : Fin 8) (f : Desk → Desk) : (r.modDesk d f).lines = r.lines := rfl
@[simp] theorem Room.modDesk_stories (d : Fin 8) (f : Desk → Desk) : (r.modDesk d f).stories = r.stories := rfl
@[simp] theorem Room.modDesk_scans (d : Fin 8) (f : Desk → Desk) : (r.modDesk d f).scans = r.scans := rfl
@[simp] theorem Room.modDesk_pool (d : Fin 8) (f : Desk → Desk) : (r.modDesk d f).pool = r.pool := rfl
@[simp] theorem Room.modDesk_freeCount (d : Fin 8) (f : Desk → Desk) : (r.modDesk d f).freeCount = r.freeCount := rfl
@[simp] theorem Room.modDesk_picks (d : Fin 8) (f : Desk → Desk) : (r.modDesk d f).picks = r.picks := rfl
@[simp] theorem Room.modDesk_waitList (d : Fin 8) (f : Desk → Desk) : (r.modDesk d f).waitList = r.waitList := rfl
@[simp] theorem Room.modDesk_settled (d : Fin 8) (f : Desk → Desk) : (r.modDesk d f).settled = r.settled := rfl
@[simp] theorem Room.modDesk_filedCount (d : Fin 8) (f : Desk → Desk) : (r.modDesk d f).filedCount = r.filedCount := rfl
@[simp] theorem Room.modDesk_stack (d : Fin 8) (f : Desk → Desk) : (r.modDesk d f).stack = r.stack := rfl
@[simp] theorem Room.modDesk_search (d : Fin 8) (f : Desk → Desk) : (r.modDesk d f).search = r.search := rfl
@[simp] theorem Room.modDesk_link (d : Fin 8) (f : Desk → Desk) : (r.modDesk d f).link = r.link := rfl

/-! ### `modPort` -/

@[simp] theorem Room.modPort_lines (p : Fin 24) (f : Port → Port) : (r.modPort p f).lines = r.lines := rfl
@[simp] theorem Room.modPort_desks (p : Fin 24) (f : Port → Port) : (r.modPort p f).desks = r.desks := rfl
@[simp] theorem Room.modPort_stories (p : Fin 24) (f : Port → Port) : (r.modPort p f).stories = r.stories := rfl
@[simp] theorem Room.modPort_scans (p : Fin 24) (f : Port → Port) : (r.modPort p f).scans = r.scans := rfl
@[simp] theorem Room.modPort_pool (p : Fin 24) (f : Port → Port) : (r.modPort p f).pool = r.pool := rfl
@[simp] theorem Room.modPort_freeCount (p : Fin 24) (f : Port → Port) : (r.modPort p f).freeCount = r.freeCount := rfl
@[simp] theorem Room.modPort_picks (p : Fin 24) (f : Port → Port) : (r.modPort p f).picks = r.picks := rfl
@[simp] theorem Room.modPort_waitList (p : Fin 24) (f : Port → Port) : (r.modPort p f).waitList = r.waitList := rfl
@[simp] theorem Room.modPort_settled (p : Fin 24) (f : Port → Port) : (r.modPort p f).settled = r.settled := rfl
@[simp] theorem Room.modPort_filedCount (p : Fin 24) (f : Port → Port) : (r.modPort p f).filedCount = r.filedCount := rfl
@[simp] theorem Room.modPort_stack (p : Fin 24) (f : Port → Port) : (r.modPort p f).stack = r.stack := rfl
@[simp] theorem Room.modPort_search (p : Fin 24) (f : Port → Port) : (r.modPort p f).search = r.search := rfl
@[simp] theorem Room.modPort_link (p : Fin 24) (f : Port → Port) : (r.modPort p f).link = r.link := rfl

/-! ### `modCounters` -/

@[simp] theorem Room.modCounters_lines (p : Fin 24) (f : Counters → Counters) : (r.modCounters p f).lines = r.lines := rfl
@[simp] theorem Room.modCounters_desks (p : Fin 24) (f : Counters → Counters) : (r.modCounters p f).desks = r.desks := rfl
@[simp] theorem Room.modCounters_stories (p : Fin 24) (f : Counters → Counters) : (r.modCounters p f).stories = r.stories := rfl
@[simp] theorem Room.modCounters_scans (p : Fin 24) (f : Counters → Counters) : (r.modCounters p f).scans = r.scans := rfl
@[simp] theorem Room.modCounters_pool (p : Fin 24) (f : Counters → Counters) : (r.modCounters p f).pool = r.pool := rfl
@[simp] theorem Room.modCounters_freeCount (p : Fin 24) (f : Counters → Counters) : (r.modCounters p f).freeCount = r.freeCount := rfl
@[simp] theorem Room.modCounters_picks (p : Fin 24) (f : Counters → Counters) : (r.modCounters p f).picks = r.picks := rfl
@[simp] theorem Room.modCounters_waitList (p : Fin 24) (f : Counters → Counters) : (r.modCounters p f).waitList = r.waitList := rfl
@[simp] theorem Room.modCounters_settled (p : Fin 24) (f : Counters → Counters) : (r.modCounters p f).settled = r.settled := rfl
@[simp] theorem Room.modCounters_filedCount (p : Fin 24) (f : Counters → Counters) : (r.modCounters p f).filedCount = r.filedCount := rfl
@[simp] theorem Room.modCounters_stack (p : Fin 24) (f : Counters → Counters) : (r.modCounters p f).stack = r.stack := rfl
@[simp] theorem Room.modCounters_search (p : Fin 24) (f : Counters → Counters) : (r.modCounters p f).search = r.search := rfl
@[simp] theorem Room.modCounters_link (p : Fin 24) (f : Counters → Counters) : (r.modCounters p f).link = r.link := rfl

/-! ### `modStory` -/

@[simp] theorem Room.modStory_ports (s : Fin 256) (f : Story → Story) : (r.modStory s f).ports = r.ports := rfl
@[simp] theorem Room.modStory_lines (s : Fin 256) (f : Story → Story) : (r.modStory s f).lines = r.lines := rfl
@[simp] theorem Room.modStory_desks (s : Fin 256) (f : Story → Story) : (r.modStory s f).desks = r.desks := rfl
@[simp] theorem Room.modStory_scans (s : Fin 256) (f : Story → Story) : (r.modStory s f).scans = r.scans := rfl
@[simp] theorem Room.modStory_pool (s : Fin 256) (f : Story → Story) : (r.modStory s f).pool = r.pool := rfl
@[simp] theorem Room.modStory_freeCount (s : Fin 256) (f : Story → Story) : (r.modStory s f).freeCount = r.freeCount := rfl
@[simp] theorem Room.modStory_picks (s : Fin 256) (f : Story → Story) : (r.modStory s f).picks = r.picks := rfl
@[simp] theorem Room.modStory_waitList (s : Fin 256) (f : Story → Story) : (r.modStory s f).waitList = r.waitList := rfl
@[simp] theorem Room.modStory_settled (s : Fin 256) (f : Story → Story) : (r.modStory s f).settled = r.settled := rfl
@[simp] theorem Room.modStory_filedCount (s : Fin 256) (f : Story → Story) : (r.modStory s f).filedCount = r.filedCount := rfl
@[simp] theorem Room.modStory_stack (s : Fin 256) (f : Story → Story) : (r.modStory s f).stack = r.stack := rfl
@[simp] theorem Room.modStory_search (s : Fin 256) (f : Story → Story) : (r.modStory s f).search = r.search := rfl
@[simp] theorem Room.modStory_link (s : Fin 256) (f : Story → Story) : (r.modStory s f).link = r.link := rfl

/-! ### `modLink` -/

@[simp] theorem Room.modLink_ports (f : Link → Link) : (r.modLink f).ports = r.ports := rfl
@[simp] theorem Room.modLink_lines (f : Link → Link) : (r.modLink f).lines = r.lines := rfl
@[simp] theorem Room.modLink_desks (f : Link → Link) : (r.modLink f).desks = r.desks := rfl
@[simp] theorem Room.modLink_stories (f : Link → Link) : (r.modLink f).stories = r.stories := rfl
@[simp] theorem Room.modLink_scans (f : Link → Link) : (r.modLink f).scans = r.scans := rfl
@[simp] theorem Room.modLink_pool (f : Link → Link) : (r.modLink f).pool = r.pool := rfl
@[simp] theorem Room.modLink_freeCount (f : Link → Link) : (r.modLink f).freeCount = r.freeCount := rfl
@[simp] theorem Room.modLink_picks (f : Link → Link) : (r.modLink f).picks = r.picks := rfl
@[simp] theorem Room.modLink_waitList (f : Link → Link) : (r.modLink f).waitList = r.waitList := rfl
@[simp] theorem Room.modLink_settled (f : Link → Link) : (r.modLink f).settled = r.settled := rfl
@[simp] theorem Room.modLink_filedCount (f : Link → Link) : (r.modLink f).filedCount = r.filedCount := rfl
@[simp] theorem Room.modLink_stack (f : Link → Link) : (r.modLink f).stack = r.stack := rfl
@[simp] theorem Room.modLink_search (f : Link → Link) : (r.modLink f).search = r.search := rfl

/-! ### What was changed, and its neighbours -/

@[simp] theorem Room.modLine_self (l : Fin 16) (f : Line → Line) : (r.modLine l f).lines[l.val] = f r.lines[l.val] := by
  simp [Room.modLine]
@[simp] theorem Room.modLine_other (l j : Fin 16) (f : Line → Line) (h : l ≠ j) :
    (r.modLine l f).lines[j.val] = r.lines[j.val] := by
  simp [Room.modLine, Fin.val_inj, h]
@[simp] theorem Room.modReceiver_self (l : Fin 16) (f : Receiver → Receiver) : (r.modReceiver l f).lines[l.val] = { r.lines[l.val] with receiver := f r.lines[l.val].receiver } := by
  simp [Room.modReceiver, Room.modLine]
@[simp] theorem Room.modReceiver_other (l j : Fin 16) (f : Receiver → Receiver) (h : l ≠ j) :
    (r.modReceiver l f).lines[j.val] = r.lines[j.val] := by
  simp [Room.modReceiver, Room.modLine, Fin.val_inj, h]
@[simp] theorem Room.modDecoder_self (l : Fin 16) (f : Decoder → Decoder) : (r.modDecoder l f).lines[l.val] = { r.lines[l.val] with decoder := f r.lines[l.val].decoder } := by
  simp [Room.modDecoder, Room.modLine]
@[simp] theorem Room.modDecoder_other (l j : Fin 16) (f : Decoder → Decoder) (h : l ≠ j) :
    (r.modDecoder l f).lines[j.val] = r.lines[j.val] := by
  simp [Room.modDecoder, Room.modLine, Fin.val_inj, h]
@[simp] theorem Room.modAssembler_self (l : Fin 16) (f : Assembler → Assembler) : (r.modAssembler l f).lines[l.val] = { r.lines[l.val] with assembler := f r.lines[l.val].assembler } := by
  simp [Room.modAssembler, Room.modLine]
@[simp] theorem Room.modAssembler_other (l j : Fin 16) (f : Assembler → Assembler) (h : l ≠ j) :
    (r.modAssembler l f).lines[j.val] = r.lines[j.val] := by
  simp [Room.modAssembler, Room.modLine, Fin.val_inj, h]
@[simp] theorem Room.modSender_self (l : Fin 16) (f : Sender → Sender) : (r.modSender l f).lines[l.val] = { r.lines[l.val] with sender := f r.lines[l.val].sender } := by
  simp [Room.modSender, Room.modLine]
@[simp] theorem Room.modSender_other (l j : Fin 16) (f : Sender → Sender) (h : l ≠ j) :
    (r.modSender l f).lines[j.val] = r.lines[j.val] := by
  simp [Room.modSender, Room.modLine, Fin.val_inj, h]
@[simp] theorem Room.modSettings_self (l : Fin 16) (f : LineSettings → LineSettings) : (r.modSettings l f).lines[l.val] = { r.lines[l.val] with settings := f r.lines[l.val].settings } := by
  simp [Room.modSettings, Room.modLine]
@[simp] theorem Room.modSettings_other (l j : Fin 16) (f : LineSettings → LineSettings) (h : l ≠ j) :
    (r.modSettings l f).lines[j.val] = r.lines[j.val] := by
  simp [Room.modSettings, Room.modLine, Fin.val_inj, h]
@[simp] theorem Room.modDesk_self (d : Fin 8) (f : Desk → Desk) : (r.modDesk d f).desks[d.val] = f r.desks[d.val] := by
  simp [Room.modDesk]
@[simp] theorem Room.modDesk_other (d j : Fin 8) (f : Desk → Desk) (h : d ≠ j) :
    (r.modDesk d f).desks[j.val] = r.desks[j.val] := by
  simp [Room.modDesk, Fin.val_inj, h]
@[simp] theorem Room.modPort_self (p : Fin 24) (f : Port → Port) : (r.modPort p f).ports[p.val] = f r.ports[p.val] := by
  simp [Room.modPort]
@[simp] theorem Room.modPort_other (p j : Fin 24) (f : Port → Port) (h : p ≠ j) :
    (r.modPort p f).ports[j.val] = r.ports[j.val] := by
  simp [Room.modPort, Fin.val_inj, h]
@[simp] theorem Room.modCounters_self (p : Fin 24) (f : Counters → Counters) : (r.modCounters p f).ports[p.val] = { r.ports[p.val] with counters := f r.ports[p.val].counters } := by
  simp [Room.modCounters, Room.modPort]
@[simp] theorem Room.modCounters_other (p j : Fin 24) (f : Counters → Counters) (h : p ≠ j) :
    (r.modCounters p f).ports[j.val] = r.ports[j.val] := by
  simp [Room.modCounters, Room.modPort, Fin.val_inj, h]
@[simp] theorem Room.modStory_self (s : Fin 256) (f : Story → Story) : (r.modStory s f).stories[s.val] = f r.stories[s.val] := by
  simp [Room.modStory]
@[simp] theorem Room.modStory_other (s j : Fin 256) (f : Story → Story) (h : s ≠ j) :
    (r.modStory s f).stories[j.val] = r.stories[j.val] := by
  simp [Room.modStory, Fin.val_inj, h]
@[simp] theorem Room.modLink_link (f : Link → Link) : (r.modLink f).link = f r.link := rfl

/-! ### Updates of the state -/

variable (s : State)

@[simp] theorem State.inRoom_pending (f : Ctx → Room → Room) : (s.inRoom f).pending = s.pending := rfl
@[simp] theorem State.inRoom_time (f : Ctx → Room → Room) : (s.inRoom f).time = s.time := rfl
@[simp] theorem State.inRoom_part (f : Ctx → Room → Room) : (s.inRoom f).part = s.part := rfl
@[simp] theorem State.inRoom_room (f : Ctx → Room → Room) : (s.inRoom f).room = f ⟨s.time, s.part⟩ s.room := rfl
@[simp] theorem State.reach_pending (n : Nat) : (s.reach n).pending = s.pending := rfl
@[simp] theorem State.reach_part (n : Nat) : (s.reach n).part = s.part := rfl
@[simp] theorem State.reach_room (n : Nat) : (s.reach n).room = s.room := rfl
@[simp] theorem State.reach_ticks (n : Nat) : (s.reach n).time.ticks = max s.time.ticks n := rfl
@[simp] theorem State.reach_seconds (n : Nat) : (s.reach n).time.seconds = s.time.seconds := rfl
@[simp] theorem State.reach_clock (n : Nat) : (s.reach n).time.clock = s.time.clock := rfl
@[simp] theorem State.tick_pending : s.tick.pending = s.pending := rfl
@[simp] theorem State.tick_part : s.tick.part = s.part := rfl
@[simp] theorem State.tick_room : s.tick.room = s.room := rfl
@[simp] theorem State.finish_pending : s.finish.pending = s.pending := rfl
@[simp] theorem State.finish_time : s.finish.time = s.time := rfl
@[simp] theorem State.finish_part : s.finish.part = s.part := rfl
@[simp] theorem State.finish_room : s.finish.room = s.room.transmit s.time.clock := rfl
@[simp] theorem State.ctx_time : s.ctx.time = s.time := rfl
@[simp] theorem State.ctx_part : s.ctx.part = s.part := rfl
@[simp] theorem State.wholeReset_pending (a b : Bool) : (s.wholeReset a b).pending = s.pending := rfl
@[simp] theorem State.wholeReset_time (a b : Bool) : (s.wholeReset a b).time = Time.reset := rfl
@[simp] theorem State.wholeReset_part (a b : Bool) : (s.wholeReset a b).part = Part.reset := rfl

end Sys2Proof.Machine
end

