-- ==== Sys2Proof/Laws/Ops.lean ====
section
/-! SUPPORT. What each shared operation can do, said once: the place kept for a reply, a request taken or not, posts to
the notice list, conditions, the transmitter's turn, the cut of an exchange, a desk's clearing, entries due together,
and what settling a sender keeps. -/

namespace Sys2Proof.Machine

open Sys2Proof.Safety

variable (r : Room) (s : State)

/-! ### The reply queue -/

/-- Keeping a place for a reply and filling it is queueing the reply. -/
@[simp] theorem Link.fillPlace_keepPlace (k : Link) (reply : Reply) :
    k.keepPlace.fillPlace k.replies.length reply = k.queueReply reply := by
  simp [Link.fillPlace, Link.keepPlace, Link.queueReply]

@[simp] theorem Link.queueReply_replies (k : Link) (reply : Reply) :
    (k.queueReply reply).replies = k.replies ++ [reply] := rfl

@[simp] theorem Link.fillPlace_length (k : Link) (n : Nat) (reply : Reply) :
    (k.fillPlace n reply).replies.length = k.replies.length := by
  simp [Link.fillPlace]

/-- A request that the link cannot take leaves the state as it is. -/
theorem State.request_not_taken (work : State → State × Reply) (h : ¬ Takes s) : s.request work = s := by
  simp [State.request, Takes] at *; simp [h]

/-- A request that is taken: its work on the state with a place kept, and its reply in that place. -/
theorem State.request_taken (work : State → State × Reply) (h : Takes s) :
    s.request work =
      { (work { s with room := s.room.modLink Link.keepPlace }).1 with
        room := (work { s with room := s.room.modLink Link.keepPlace }).1.room.modLink fun k =>
          k.fillPlace s.room.link.replies.length (work { s with room := s.room.modLink Link.keepPlace }).2 }.finish := by
  simp only [State.request, Takes] at *; simp [h]

/-- A request whose work leaves the link alone: the state its work makes, and its reply at the queue's tail. -/
theorem State.request_of_link (work : State → State × Reply) (u : State) (reply : Reply) (h : Takes s)
    (hw : work { s with room := s.room.modLink Link.keepPlace } =
      ({ u with room := u.room.modLink fun _ => s.room.link.keepPlace }, reply))
    (hu : u.room.link = s.room.link) : s.request work = (replied u reply).finish := by
  rw [State.request_taken s work h, hw]
  simp [Room.modLink, replied, hu]

/-- A request that is refused: the reply alone. -/
theorem State.request_refused (work : State → State × Reply) (tag : Octet) (d : Detail) (h : Takes s)
    (hw : work { s with room := s.room.modLink Link.keepPlace } =
      ({ s with room := s.room.modLink Link.keepPlace }, refusedReply tag d)) :
    s.request work = (replied s (refusedReply tag d)).finish :=
  State.request_of_link s work s _ h (by rw [hw]; rfl) rfl

/-! ### Posts and conditions -/

@[simp] theorem Room.postStory_ports (i : Fin 256) (k : StoryKinds) : (r.postStory i k).ports = r.ports := rfl
@[simp] theorem Room.postStory_lines (i : Fin 256) (k : StoryKinds) : (r.postStory i k).lines = r.lines := rfl
@[simp] theorem Room.postStory_desks (i : Fin 256) (k : StoryKinds) : (r.postStory i k).desks = r.desks := rfl
@[simp] theorem Room.postStory_scans (i : Fin 256) (k : StoryKinds) : (r.postStory i k).scans = r.scans := rfl
@[simp] theorem Room.postStory_pool (i : Fin 256) (k : StoryKinds) : (r.postStory i k).pool = r.pool := rfl
@[simp] theorem Room.postStory_freeCount (i : Fin 256) (k : StoryKinds) :
    (r.postStory i k).freeCount = r.freeCount := rfl
@[simp] theorem Room.postStory_settled (i : Fin 256) (k : StoryKinds) : (r.postStory i k).settled = r.settled := rfl
@[simp] theorem Room.postStory_waitList (i : Fin 256) (k : StoryKinds) : (r.postStory i k).waitList = r.waitList := rfl
@[simp] theorem Room.postStory_replies (i : Fin 256) (k : StoryKinds) :
    (r.postStory i k).link.replies = r.link.replies := rfl

/-- Every field of the link but the notice list is kept by a change of conditions, and every field of the room but the
port's condition set. -/
theorem Room.setConditions_eq (p : Fin 24) (f : Conditions → Conditions) :
    r.setConditions p f =
      { r with
        ports := r.ports.set p { r.ports[p] with conditions := f r.ports[p].conditions }
        link := { r.link with
          notices :=
            if f r.ports[p].conditions = r.ports[p].conditions ∨ Notice.port p ∈ r.link.notices then r.link.notices
            else r.link.notices ++ [.port p] } } := by
  unfold Room.setConditions
  split
  next h =>
    have keep : r.ports.set p { r.ports[p] with conditions := r.ports[p].conditions } = r.ports :=
      Vector.set_getElem_self p.isLt
    rw [h, keep]; simp
  next h =>
    simp only [Room.postPort, Room.modLink, Room.modPort, h, false_or, List.contains_iff_mem]
    split <;> rfl

@[simp] theorem Room.setConditions_lines (p : Fin 24) (f : Conditions → Conditions) :
    (r.setConditions p f).lines = r.lines := by rw [Room.setConditions_eq]
@[simp] theorem Room.setConditions_desks (p : Fin 24) (f : Conditions → Conditions) :
    (r.setConditions p f).desks = r.desks := by rw [Room.setConditions_eq]
@[simp] theorem Room.setConditions_stories (p : Fin 24) (f : Conditions → Conditions) :
    (r.setConditions p f).stories = r.stories := by rw [Room.setConditions_eq]
@[simp] theorem Room.setConditions_scans (p : Fin 24) (f : Conditions → Conditions) :
    (r.setConditions p f).scans = r.scans := by rw [Room.setConditions_eq]
@[simp] theorem Room.setConditions_pool (p : Fin 24) (f : Conditions → Conditions) :
    (r.setConditions p f).pool = r.pool := by rw [Room.setConditions_eq]
@[simp] theorem Room.setConditions_freeCount (p : Fin 24) (f : Conditions → Conditions) :
    (r.setConditions p f).freeCount = r.freeCount := by rw [Room.setConditions_eq]
@[simp] theorem Room.setConditions_settled (p : Fin 24) (f : Conditions → Conditions) :
    (r.setConditions p f).settled = r.settled := by rw [Room.setConditions_eq]
@[simp] theorem Room.setConditions_waitList (p : Fin 24) (f : Conditions → Conditions) :
    (r.setConditions p f).waitList = r.waitList := by rw [Room.setConditions_eq]
@[simp] theorem Room.setConditions_replies (p : Fin 24) (f : Conditions → Conditions) :
    (r.setConditions p f).link.replies = r.link.replies := by rw [Room.setConditions_eq]

/-- A change that leaves the condition set as it is changes nothing. -/
theorem Room.setConditions_same (p : Fin 24) (f : Conditions → Conditions)
    (h : f r.ports[p].conditions = r.ports[p].conditions) : r.setConditions p f = r := by
  unfold Room.setConditions; rw [if_pos h]

/-! ### The transmitter -/

/-- A busy transmitter takes nothing. -/
theorem Room.transmit_busy (clock : Stamp) (h : r.link.txFrame ≠ none) : r.transmit clock = r := by
  unfold Room.transmit
  split
  · rfl
  next h' => exact absurd h' h

/-- A free transmitter takes the oldest reply. -/
theorem Room.transmit_reply (clock : Stamp) (reply : Reply) (rest : List Reply) (h : r.link.txFrame = none)
    (hr : r.link.replies = reply :: rest) :
    r.transmit clock = r.modLink fun k => { k with replies := rest, txFrame := some (.reply reply) } := by
  simp [Room.transmit, h, hr]

/-- Everything the transmitter's turn can do to the reply queue: nothing, or the oldest reply leaves it. -/
theorem Room.transmit_replies (clock : Stamp) :
    (r.transmit clock).link.replies = r.link.replies ∨
      ∃ reply, r.link.replies = reply :: (r.transmit clock).link.replies := by
  unfold Room.transmit
  split
  · exact .inl rfl
  · split
    next reply rest h => exact .inr ⟨reply, h⟩
    next h =>
      left
      split
      · rfl
      · split
        · rfl
        · unfold Room.takeNotice
          split
          · rfl
          · split <;> rfl

@[simp] theorem Room.takeNotice_ports (clock : Stamp) : (r.takeNotice clock).ports = r.ports := by
  unfold Room.takeNotice; split; · rfl
  split <;> rfl
@[simp] theorem Room.takeNotice_lines (clock : Stamp) : (r.takeNotice clock).lines = r.lines := by
  unfold Room.takeNotice; split; · rfl
  split <;> rfl
@[simp] theorem Room.takeNotice_desks (clock : Stamp) : (r.takeNotice clock).desks = r.desks := by
  unfold Room.takeNotice; split; · rfl
  split <;> rfl
@[simp] theorem Room.takeNotice_pool (clock : Stamp) : (r.takeNotice clock).pool = r.pool := by
  unfold Room.takeNotice; split; · rfl
  split <;> rfl

@[simp] theorem Room.transmit_ports (clock : Stamp) : (r.transmit clock).ports = r.ports := by
  unfold Room.transmit
  repeat' split
  all_goals simp
@[simp] theorem Room.transmit_lines (clock : Stamp) : (r.transmit clock).lines = r.lines := by
  unfold Room.transmit
  repeat' split
  all_goals simp
@[simp] theorem Room.transmit_desks (clock : Stamp) : (r.transmit clock).desks = r.desks := by
  unfold Room.transmit
  repeat' split
  all_goals simp
@[simp] theorem Room.transmit_pool (clock : Stamp) : (r.transmit clock).pool = r.pool := by
  unfold Room.transmit
  repeat' split
  all_goals simp

/-! ## The cut of an exchange, a clearing, and entries due together -/

variable (x : Sender) (i : Identify)

@[simp] theorem Identify.ended_phase : i.ended.phase = .none := rfl
@[simp] theorem Identify.ended_request : i.ended.request = false := rfl
@[simp] theorem Identify.ended_tryNumber : i.ended.tryNumber = i.tryNumber := rfl
@[simp] theorem Identify.ended_collector : i.ended.collector = i.collector := rfl

@[simp] theorem Sender.cutShort_identify : x.cutShort.identify = x.identify.ended := rfl
@[simp] theorem Sender.cutShort_current : x.cutShort.current = x.current := rfl
@[simp] theorem Sender.cutShort_txChar : x.cutShort.txChar = x.txChar := rfl

/-- A cut sender is IDENTIFYING no more (R155). -/
theorem Sender.cutShort_machine_ne : x.cutShort.machine ≠ .identifying := by
  unfold Sender.cutShort
  dsimp only
  split
  · decide
  · assumption

@[simp] theorem Sender.silenced_identify (u : Bool) : (x.silenced u).identify = x.identify.ended := by
  unfold Sender.silenced
  split
  · rfl
  · split <;> rfl
@[simp] theorem Sender.silenced_txChar (u : Bool) : (x.silenced u).txChar = x.txChar := by
  unfold Sender.silenced
  split
  · rfl
  · split <;> rfl

/-- A silenced sender is IDENTIFYING no more (R155). -/
theorem Sender.silenced_machine_ne (u : Bool) : (x.silenced u).machine ≠ .identifying := by
  unfold Sender.silenced
  split
  · exact SendMachine.noConfusion
  · split <;> exact x.cutShort_machine_ne

/-- What the end of a return settles for the suspension touches nothing on the pin, and no answer, stop or exchange
(R145, R146, R148). -/
theorem Sender.settleSuspension_kept (next : Next) :
    (x.settleSuspension next).1.txChar = x.txChar ∧ (x.settleSuspension next).1.column = x.column ∧
    (x.settleSuspension next).1.answerPending = x.answerPending ∧
    (x.settleSuspension next).1.stopPending = x.stopPending ∧
    (x.settleSuspension next).1.identify = x.identify ∧ (x.settleSuspension next).1.farOpen = x.farOpen := by
  unfold Sender.settleSuspension
  split <;> exact ⟨rfl, rfl, rfl, rfl, rfl, rfl⟩

/-- At the end of RESUME's return the suspended story is current, ahead of any answer (R146). -/
theorem Sender.settleSuspension_resume {c : HeldContext} (h : x.suspension = .held c) :
    (x.settleSuspension .afterResume).1.current = some ⟨c.slot, c.cls⟩ ∧
    (x.settleSuspension .afterResume).1.suspension = .empty ∧ (x.settleSuspension .afterResume).2 = .text := by
  unfold Sender.settleSuspension
  rw [h]
  exact ⟨rfl, rfl, rfl⟩

/-- A cleared desk is OUT, or IDLE, or within a character until whose end it is being cleared (R182). -/
theorem Desk.cleared_state (y : Desk) :
    y.cleared.state = .out ∨ y.cleared.state = .idle ∨ (y.cleared.clearing = true ∧ y.txChar.isSome = true) := by
  unfold Desk.cleared
  split
  · exact .inl rfl
  · cases h : (y.txChar.isSome && y.state != .idle)
    · exact .inr (.inl rfl)
    · exact .inr (.inr ⟨rfl, ((Bool.and_eq_true _ _).mp h).1⟩)

/-- An entry that falls due with another is of its class and moment (R106). -/
theorem dueWith_same {q : List QEntry} {e y : QEntry} (h : y ∈ dueWith q e) : y.cls = e.cls ∧ y.at_ = e.at_ := by
  rcases List.mem_append.mp h with h | h
  · have := (List.mem_filter.mp h).2
    simpa using this
  · cases List.mem_singleton.mp h
    exact ⟨rfl, rfl⟩

/-- The stop of a character, and the rest after it, are mark (R123, R168). -/
theorem elementLevel_stop {data code element : Nat} (h : data < element) : elementLevel data code element = .mark := by
  unfold elementLevel
  rw [if_neg (by omega), if_neg (by omega)]

/-- The character of a code on the send pin begins with a unit of space (R123). -/
theorem characterLevel_start {code unit elapsed : Nat} (h : elapsed < unit) : characterLevel code unit elapsed = .space := by
  unfold characterLevel
  rw [Nat.div_eq_of_lt h]
  rfl

/-- A byte of the link travels as the ten elements of its character (R183). -/
theorem linkLevel_element {bytes : List Nat} {j b e : Nat} (h : bytes[j]? = some b) (he : e < 10) :
    linkLevel bytes (10 * j + e) = elementLevel 8 b e := by
  unfold linkLevel
  rw [show (10 * j + e) / 10 = j by omega, show (10 * j + e) % 10 = e by omega, h]

/-- The link rests at mark behind the last byte (R183). -/
theorem linkLevel_rest {bytes : List Nat} {bit : Nat} (h : 10 * bytes.length ≤ bit) : linkLevel bytes bit = .mark := by
  unfold linkLevel
  rw [List.getElem?_eq_none (by omega)]

/-- A cell of some text is sent exactly when one of its cells is: a line end, a space before a word, or a bell or word cell
with a position (R126, R127, R131, R133). -/
theorem Sender.sendsCell_iff (x : Sender) (cells : List Cell) :
    x.sendsCell cells = true ↔ ∃ (before rest : List Cell) (c : Cell), cells = before ++ c :: rest ∧
      (c = 10 ∨ c = 32 ∧ (∃ w ∈ rest, isWordCell w = true) ∨ c = 7 ∧ x.encodeBell ≠ [] ∨
        c ≠ 10 ∧ c ≠ 32 ∧ c ≠ 7 ∧ (x.encode c).1 ≠ []) := by
  induction cells with
  | nil => simp [Sender.sendsCell]
  | cons a rest ih =>
    have here : (if a = 10 then true else if a = 32 then rest.any isWordCell else if a = 7 then x.encodeBell != []
        else (x.encode a).1 != []) = true ↔
        (a = 10 ∨ a = 32 ∧ (∃ w ∈ rest, isWordCell w = true) ∨ a = 7 ∧ x.encodeBell ≠ [] ∨
          a ≠ 10 ∧ a ≠ 32 ∧ a ≠ 7 ∧ (x.encode a).1 ≠ []) := by
      by_cases h10 : a = 10
      · simp [h10]
      by_cases h32 : a = 32
      · simp [h32]
      by_cases h7 : a = 7 <;> simp [h10, h32, h7]
    rw [Sender.sendsCell, Bool.or_eq_true, here, ih]
    constructor
    · rintro (h | ⟨before, rest', c, rfl, h⟩)
      · exact ⟨[], rest, a, rfl, h⟩
      · exact ⟨a :: before, rest', c, rfl, h⟩
    · rintro ⟨before, rest', c, e, h⟩
      cases before with
      | nil => cases e; exact .inl h
      | cons b before => cases e; exact .inr ⟨before, rest', c, rfl, h⟩

/-- What settling a sender can do (R14, R140; log entry 54): nothing in SENDING, and its safe point in every other state. -/
theorem Sender.settle_cases (x : Sender) (templates : Vector Table 4) :
    (x.machine = .sending ∧ x.settle templates = x) ∨
      (x.machine ≠ .sending ∧ x.settle templates = x.safePoint templates) := by
  unfold Sender.settle
  split
  · exact .inl ⟨‹_›, rfl⟩
  · exact .inr ⟨‹_›, rfl⟩

/-- A safe point leaves what the sender is in the midst of: its state, the unit being sent, the codes to follow and the
character in progress. -/
theorem Sender.safePoint_kept (x : Sender) (templates : Vector Table 4) :
    (x.safePoint templates).machine = x.machine ∧ (x.safePoint templates).activity = x.activity ∧
      (x.safePoint templates).codes = x.codes ∧ (x.safePoint templates).txChar = x.txChar := by
  unfold Sender.safePoint
  dsimp only
  split <;> exact ⟨rfl, rfl, rfl, rfl⟩

/-- A return sequence in progress goes on as it was reckoned when something is settled within it (R135; log entry 54). -/
theorem Sender.settle_kept (x : Sender) (templates : Vector Table 4) :
    (x.settle templates).machine = x.machine ∧ (x.settle templates).activity = x.activity ∧
      (x.settle templates).codes = x.codes ∧ (x.settle templates).txChar = x.txChar := by
  obtain ⟨-, h⟩ | ⟨-, h⟩ := x.settle_cases templates
  · rw [h]; exact ⟨rfl, rfl, rfl, rfl⟩
  · rw [h]; exact x.safePoint_kept templates

/-- A VOID begun at the cut point is sent as it began: the cut point is past (R152). -/
theorem Sender.atCutPoint_past {x : Sender} (h : x.activity.next = some .cutPoint) : x.atCutPoint = false := by
  unfold Sender.atCutPoint
  rw [h]
  exact Bool.and_false _

/-- The end of a character is no cut point without a CUT (R152). -/
theorem Sender.atCutPoint_cut {x : Sender} (h : x.stopPending ≠ some .cut) : x.atCutPoint = false := by
  unfold Sender.atCutPoint
  rw [show (x.stopPending == some .cut) = false from beq_eq_false_iff_ne.mpr h]
  rfl

end Sys2Proof.Machine
end

