-- ==== Sys2Proof/Laws/PerInstr.lean ====
section
/-! SUPPORT. Facts about each command as it is written: the kind of its frame and its tag. -/

namespace Sys2Proof.Laws.FrameKinds

open Sys2Proof.Machine

/-- A request's frame has one of the kinds 1 to 24 of R186; a command that is no request carries no tag. -/
def Statement (i : Instr) : Prop :=
  (∀ f : Nat × List Nat, requestFrame i = some f → 1 ≤ f.1 ∧ f.1 ≤ 24) ∧ (requestFrame i = none → requestTag i = 0)

/-- The statement for a request, from its frame. -/
theorem of_frame {i : Instr} {f : Nat × List Nat} (h : requestFrame i = some f) (low : 1 ≤ f.1) (high : f.1 ≤ 24) :
    Statement i :=
  ⟨fun _ hg => Option.some.inj (h.symm.trans hg) ▸ And.intro low high, fun hn => nomatch h.symm.trans hn⟩

/-- The statement for an event, which has no frame of its own and no tag. -/
theorem of_event {i : Instr} (h : requestFrame i = none) (tag : requestTag i = 0) : Statement i :=
  ⟨fun _ hg => (nomatch h.symm.trans hg), fun _ => tag⟩

theorem powerOn (strapFirst strapSecond : Bool) : Statement (.powerOn strapFirst strapSecond) :=
  of_event rfl rfl

theorem resetPin (strapFirst strapSecond : Bool) : Statement (.resetPin strapFirst strapSecond) :=
  of_event rfl rfl

theorem timingBaseSettled : Statement .timingBaseSettled :=
  of_event rfl rfl

theorem monotonicSecondsAdvance : Statement .monotonicSecondsAdvance :=
  of_event rfl rfl

theorem wireClockAdvance : Statement .wireClockAdvance :=
  of_event rfl rfl

theorem portSetup (tag : Octet) (port : Nat) (settings : List Setting) :
    Statement (.portSetup tag port settings) :=
  of_frame rfl (Nat.le_of_ble_eq_true rfl) (Nat.le_of_ble_eq_true rfl)

theorem portStart (tag : Octet) (port : Nat) :
    Statement (.portStart tag port) :=
  of_frame rfl (Nat.le_of_ble_eq_true rfl) (Nat.le_of_ble_eq_true rfl)

theorem portStopDrain (tag : Octet) (port : Nat) :
    Statement (.portStopDrain tag port) :=
  of_frame rfl (Nat.le_of_ble_eq_true rfl) (Nat.le_of_ble_eq_true rfl)

theorem portStopCut (tag : Octet) (port : Nat) :
    Statement (.portStopCut tag port) :=
  of_frame rfl (Nat.le_of_ble_eq_true rfl) (Nat.le_of_ble_eq_true rfl)

theorem partSetup (tag : Octet) (lede threshold : Option Nat) :
    Statement (.partSetup tag lede threshold) :=
  of_frame rfl (Nat.le_of_ble_eq_true rfl) (Nat.le_of_ble_eq_true rfl)

theorem tableLoad (tag : Octet) (table half start : Nat) (run : List RawEntry) :
    Statement (.tableLoad tag table half start run) :=
  of_frame rfl (Nat.le_of_ble_eq_true rfl) (Nat.le_of_ble_eq_true rfl)

theorem markerSet (tag : Octet) (opn cls brk res vd : List Nat) :
    Statement (.markerSet tag opn cls brk res vd) :=
  of_frame rfl (Nat.le_of_ble_eq_true rfl) (Nat.le_of_ble_eq_true rfl)

theorem routeSet (tag : Octet) (arg : RouteArg) : Statement (.routeSet tag arg) := by
  cases arg <;> exact of_frame rfl (by decide : 1 ≤ 7) (by decide : 7 ≤ 24)

theorem keywordSet (tag : Octet) (entry : Nat) (arg : KeywordArg) : Statement (.keywordSet tag entry arg) := by
  cases arg <;> exact of_frame rfl (by decide : 1 ≤ 8) (by decide : 8 ≤ 24)

theorem clockSet (tag : Octet) (seconds day : Nat) :
    Statement (.clockSet tag seconds day) :=
  of_frame rfl (Nat.le_of_ble_eq_true rfl) (Nat.le_of_ble_eq_true rfl)

theorem identify (tag : Octet) (port : Nat) :
    Statement (.identify tag port) :=
  of_frame rfl (Nat.le_of_ble_eq_true rfl) (Nat.le_of_ble_eq_true rfl)

theorem storyOpen (tag : Octet) :
    Statement (.storyOpen tag) :=
  of_frame rfl (Nat.le_of_ble_eq_true rfl) (Nat.le_of_ble_eq_true rfl)

theorem storyAppend (tag : Octet) (slot : Nat) (cells : List Nat) :
    Statement (.storyAppend tag slot cells) :=
  of_frame rfl (Nat.le_of_ble_eq_true rfl) (Nat.le_of_ble_eq_true rfl)

theorem storyClose (tag : Octet) (slot : Nat) :
    Statement (.storyClose tag slot) :=
  of_frame rfl (Nat.le_of_ble_eq_true rfl) (Nat.le_of_ble_eq_true rfl)

theorem storyRead (tag : Octet) (slot offset count : Nat) :
    Statement (.storyRead tag slot offset count) :=
  of_frame rfl (Nat.le_of_ble_eq_true rfl) (Nat.le_of_ble_eq_true rfl)

theorem storyList (tag : Octet) (state start : Nat) :
    Statement (.storyList tag state start) :=
  of_frame rfl (Nat.le_of_ble_eq_true rfl) (Nat.le_of_ble_eq_true rfl)

theorem lineReplace (tag : Octet) (slot line : Nat) (cells : List Nat) :
    Statement (.lineReplace tag slot line cells) :=
  of_frame rfl (Nat.le_of_ble_eq_true rfl) (Nat.le_of_ble_eq_true rfl)

theorem storyHold (tag : Octet) (slot : Nat) :
    Statement (.storyHold tag slot) :=
  of_frame rfl (Nat.le_of_ble_eq_true rfl) (Nat.le_of_ble_eq_true rfl)

theorem storyUnhold (tag : Octet) (slot : Nat) :
    Statement (.storyUnhold tag slot) :=
  of_frame rfl (Nat.le_of_ble_eq_true rfl) (Nat.le_of_ble_eq_true rfl)

theorem storyCancel (tag : Octet) (slot : Nat) :
    Statement (.storyCancel tag slot) :=
  of_frame rfl (Nat.le_of_ble_eq_true rfl) (Nat.le_of_ble_eq_true rfl)

theorem storyRelease (tag : Octet) (slot : Nat) :
    Statement (.storyRelease tag slot) :=
  of_frame rfl (Nat.le_of_ble_eq_true rfl) (Nat.le_of_ble_eq_true rfl)

theorem storyRequeue (tag : Octet) (slot : Nat) (dest : List Nat) :
    Statement (.storyRequeue tag slot dest) :=
  of_frame rfl (Nat.le_of_ble_eq_true rfl) (Nat.le_of_ble_eq_true rfl)

theorem search (tag : Octet) (text : List Nat) (first last : Nat) :
    Statement (.search tag text first last) :=
  of_frame rfl (Nat.le_of_ble_eq_true rfl) (Nat.le_of_ble_eq_true rfl)

theorem searchExamineSlot : Statement .searchExamineSlot :=
  of_event rfl rfl

theorem statusPort (tag : Octet) (port : Nat) :
    Statement (.statusPort tag port) :=
  of_frame rfl (Nat.le_of_ble_eq_true rfl) (Nat.le_of_ble_eq_true rfl)

theorem statusPart (tag : Octet) (number : Nat) :
    Statement (.statusPart tag number) :=
  of_frame rfl (Nat.le_of_ble_eq_true rfl) (Nat.le_of_ble_eq_true rfl)

theorem statusStory (tag : Octet) (slot : Nat) :
    Statement (.statusStory tag slot) :=
  of_frame rfl (Nat.le_of_ble_eq_true rfl) (Nat.le_of_ble_eq_true rfl)

theorem resetTraffic (tag : Octet) :
    Statement (.resetTraffic tag) :=
  of_frame rfl (Nat.le_of_ble_eq_true rfl) (Nat.le_of_ble_eq_true rfl)

theorem resetFull (tag : Octet) :
    Statement (.resetFull tag) :=
  of_frame rfl (Nat.le_of_ble_eq_true rfl) (Nat.le_of_ble_eq_true rfl)

theorem resetExecutionResumes : Statement .resetExecutionResumes :=
  of_event rfl rfl

theorem resetFullComplete (strapFirst strapSecond : Bool) : Statement (.resetFullComplete strapFirst strapSecond) :=
  of_event rfl rfl

theorem badRequest (tag kind : Octet) (body : List Octet) : Statement (.badRequest tag kind body) :=
  of_event rfl rfl

theorem frameRejected (bytes : List Octet) : Statement (.frameRejected bytes) :=
  of_event rfl rfl

theorem frameGapTimeout (bytes : List Octet) : Statement (.frameGapTimeout bytes) :=
  of_event rfl rfl

theorem flowDiscard (bytes : List Octet) : Statement (.flowDiscard bytes) :=
  of_event rfl rfl

theorem discardQuietExit : Statement .discardQuietExit :=
  of_event rfl rfl

theorem frameSent : Statement .frameSent :=
  of_event rfl rfl

theorem longReplyQueued : Statement .longReplyQueued :=
  of_event rfl rfl

theorem characterReceived (line : Fin 16) (code : Fin 32) (stop : Level) :
    Statement (.characterReceived line code stop) :=
  of_event rfl rfl

theorem inactivityExpiry (line : Fin 16) : Statement (.inactivityExpiry line) :=
  of_event rfl rfl

theorem breakDetected (line : Fin 16) : Statement (.breakDetected line) :=
  of_event rfl rfl

theorem restore (line : Fin 16) : Statement (.restore line) :=
  of_event rfl rfl

theorem startWaitEnd (line : Fin 16) : Statement (.startWaitEnd line) :=
  of_event rfl rfl

theorem motorIdleExpiry (line : Fin 16) : Statement (.motorIdleExpiry line) :=
  of_event rfl rfl

theorem sendCharacterEnd (line : Fin 16) : Statement (.sendCharacterEnd line) :=
  of_event rfl rfl

theorem identifyWindowExpiry (line : Fin 16) : Statement (.identifyWindowExpiry line) :=
  of_event rfl rfl

theorem entryPromotion (port : Fin 24) (slot : Fin 256) : Statement (.entryPromotion port slot) :=
  of_event rfl rfl

theorem deskCharacterReceived (desk : Fin 8) (value : Fin 128) (stop : Level) :
    Statement (.deskCharacterReceived desk value stop) :=
  of_event rfl rfl

theorem deskCharacterSent (desk : Fin 8) : Statement (.deskCharacterSent desk) :=
  of_event rfl rfl

theorem stallExpiry (desk : Fin 8) : Statement (.stallExpiry desk) :=
  of_event rfl rfl

theorem markToSpaceTransition (line : Fin 16) : Statement (.markToSpaceTransition line) :=
  of_event rfl rfl

theorem falseStart (line : Fin 16) : Statement (.falseStart line) :=
  of_event rfl rfl

theorem spaceToMarkTransition (line : Fin 16) : Statement (.spaceToMarkTransition line) :=
  of_event rfl rfl

end Sys2Proof.Laws.FrameKinds
end

