-- ==== Sys2Proof/Tests/Slice0.lean ====
section
/-! SUPPORT. Tests: ill-formed commands that `wf` refuses, worked examples of the manual one step at a time, and for
each obligation with hypotheses a state and operands that meet them. -/

namespace Sys2Proof.Tests

open Sys2Proof.Machine Sys2Proof.Safety

/-! ## States to start from -/

/-- A part that has sent READY. -/
def ready : State :=
  { State.reset with room := { State.reset.room with link := { State.reset.room.link with ready := true, rx := .hunt } } }

/-- The ready part with its room changed. -/
def on (f : Room → Room) : State := { ready with room := f ready.room }

/-- A port in service. -/
def Room.serve (r : Room) (p : Fin 24) : Room := r.modPort p fun x => { x with inService := true }

/-- A line in service in mode BOTH, with its sender in a state. -/
def Room.both (r : Room) (l : Fin 16) (m : SendMachine) : Room :=
  (Room.serve r (linePort l)).modLine l fun x =>
    { x with settings := { x.settings with mode := .both }, sender := { x.sender with machine := m } }

/-- A story in a slot. -/
def Room.story (r : Room) (i : Fin 256) (x : Story) : Room := r.modStory i fun _ => x

/-- A host story being assembled, of three cells in one block. -/
def hostStory : Story :=
  { Story.blank with
    state := .assembling, origin := some .host, opened := some ⟨0, 0⟩, text := [65, 66, 67], limit := 8192, chain := [0] }

/-- A settled story of three cells. -/
def settledStory : Story := { hostStory with state := .settled, cause := some .closed, closed := true }

/-- A filed story. -/
def filedStory : Story := { hostStory with state := .filed, cause := some .closed, closed := true }

/-- What a step's outcome is asked. -/
def after {α : Type} (a : Answer) (f : State → α) : Option α :=
  match a with
  | .next t => some (f t)
  | _ => none

/-- Line 2, line 5, desk 7 and slot 9 of a state. -/
def at2 (s : State) : Line := s.room.lines[(2 : Fin 16)]

def at5 (s : State) : Line := s.room.lines[(5 : Fin 16)]

def at7 (s : State) : Desk := s.room.desks[(7 : Fin 8)]

def slot9 (s : State) : Story := s.room.stories[(9 : Fin 256)]

/-- A state with another story in slot 9. -/
def nine (x : Story) (s : State) : State := { s with room := s.room.modStory 9 fun _ => x }

theorem takes_of {s : State} (h : s.room.link.canTake = true) : Takes s := h

theorem takes_ready : Takes ready := takes_of (by decide)

/-- A change of the room that leaves the link lets the part take a request. -/
theorem takes_on {f : Room → Room} (h : (f ready.room).link = ready.room.link) : Takes (on f) :=
  show (f ready.room).link.canTake = true from h ▸ takes_ready

/-! ## Ill-formed commands -/

theorem test_wf_accepts : wf (.clockSet 5 86399 255) = true := by decide

theorem test_wf_byte : wf (.portStart 1 256) = false := by decide

theorem test_wf_two_bytes : wf (.storyRead 1 0 65536 1) = false := by decide

theorem test_wf_three_bytes : wf (.clockSet 1 16777216 0) = false := by decide

theorem test_wf_presence_values : wf (.partSetup 1 (some 256) none) = false := by decide

theorem test_wf_run : wf (.search 1 [256] 0 0) = false := by decide

theorem test_wf_port_set_order : wf (.storyRequeue 1 0 [2, 1]) = false := by decide

theorem test_wf_port_set_range : wf (.storyRequeue 1 0 [24]) = false := by decide

theorem test_wf_setting_value : wf (.portSetup 1 0 [⟨0, 256, []⟩]) = false := by decide

theorem test_wf_setting_text : wf (.portSetup 1 0 [⟨0, 1, [65]⟩]) = false := by decide

theorem test_wf_unknown_setting_last : wf (.portSetup 1 0 [⟨31, 0, []⟩, ⟨0, 1, []⟩]) = false := by decide

theorem test_wf_route : wf (.routeSet 1 (.unused 255)) = false := by decide

theorem test_wf_keyword : wf (.keywordSet 1 0 (.text [65, 66, 67] 256)) = false := by decide

theorem test_wf_table_entry : wf (.tableLoad 1 0 0 0 [⟨256, 0⟩]) = false := by decide

theorem test_wf_body_too_long : wf (.storyAppend 1 0 (List.replicate 240 65)) = false := by decide +kernel

theorem test_wf_request_as_bad : wf (.badRequest 1 11 []) = false := by decide

theorem test_wf_frame_not_rejected : wf (.frameRejected [0xE7, 2]) = false := by decide

theorem test_wf_frame_not_unfinished : wf (.frameGapTimeout []) = false := by decide

theorem test_wf_no_byte : wf (.flowDiscard []) = false := by decide

/-! ## Worked examples of the manual, one step each -/

/-- The load of section 1.4 of 01_line_code_and_translation_tables.md: eight entries taken. -/
theorem test_table_load_taken :
    after (exec (.tableLoad 1 1 1 24 [⟨0, 63⟩, ⟨0, 43⟩, ⟨1, 0⟩, ⟨0, 33⟩, ⟨2, 0⟩, ⟨0, 36⟩, ⟨0, 38⟩, ⟨0, 35⟩, ⟨0, 37⟩,
      ⟨0, 64⟩]) ready) (fun t => (t.room.link.txFrame,
        (t.part.templates[1].figures[29], t.part.templates[1].figures[30], t.part.templates[1].figures[31]))) =
      some (some (.reply (doneReply 1 (.entriesTaken 8))), some (.print 36), some (.print 38), none) := by decide +kernel

/-- The same load with office 127 as its tenth entry. -/
theorem test_table_load_refused :
    after (exec (.tableLoad 1 1 1 24 [⟨0, 63⟩, ⟨0, 43⟩, ⟨1, 0⟩, ⟨0, 33⟩, ⟨2, 0⟩, ⟨0, 36⟩, ⟨0, 38⟩, ⟨0, 35⟩, ⟨0, 37⟩,
      ⟨0, 127⟩]) ready) (fun t => (t.room.link.txFrame, t.part.templates[1].figures[29])) =
      some (some (.reply (refusedReply 1 .badParameter)), some .nothing) := by decide +kernel

/-- Element and character lengths of R17 and R18: 'A' of 02_line_reception_and_decoding.md, and fill case 2. -/
theorem test_character_ticks :
    unitTicks 1 = 2000 ∧ LineSettings.reset.charTicks = 15000 ∧
      { LineSettings.reset with rate := 4, stop := .one }.charTicks = 7000 := by decide

/-- Fill cases 1 and 2 of 07_line_sending_and_encoding.md. -/
theorem test_fill_counts :
    fillCount 15000 { SendSettings.reset with allowance := 250, minFill := 1 } 69 = 3 ∧
      fillCount 7000 { SendSettings.reset with allowance := 2000, minFill := 1 } 96 = 15 := by decide

/-- "gln 0417 u ec 350w rates firm", a header line of 03_story_assembly.md. -/
theorem test_header_folded :
    parseHeader [103, 108, 110, 32, 48, 52, 49, 55, 32, 117, 32, 101, 99, 32, 51, 53, 48, 119, 32, 114, 97, 116, 101,
      115, 32, 102, 105, 114, 109, 10] =
      some ⟨[71, 76, 78], 417, .urgent, [69, 67], some 350, some [114, 97, 116, 101, 115, 32, 102, 105, 114, 109]⟩ := by
  decide +kernel

/-- "PAR 12 F EC 0W BANK": no word count of 0. -/
theorem test_header_zero_words :
    parseHeader [80, 65, 82, 32, 49, 50, 32, 70, 32, 69, 67, 32, 48, 87, 32, 66, 65, 78, 75, 10] =
      some ⟨[80, 65, 82], 12, .flash, [69, 67], none, some [48, 87, 32, 66, 65, 78, 75]⟩ := by decide +kernel

/-- "GLN 12345 U EC RATES", "GLN 0 U EC" and "GLNX 17 O SP" are UNHEADED. -/
theorem test_header_unheaded :
    parseHeader [71, 76, 78, 32, 49, 50, 51, 52, 53, 32, 85, 32, 69, 67, 10] = none ∧
      parseHeader [71, 76, 78, 32, 48, 32, 85, 32, 69, 67, 10] = none ∧
      parseHeader [71, 76, 78, 88, 32, 49, 55, 32, 79, 32, 83, 80, 10] = none := by decide +kernel

/-- The factory IDENT position, FIGURES 28 in 09_answerback.md. -/
theorem test_ident_position : factoryTable.identPosition = some 28 := by decide

/-- The READY frame by the layout of R184: the check byte makes the sum 0 modulo 256. -/
theorem test_ready_frame :
    (Frame.part ⟨0, 0⟩).bytes = [0xE7, 8, 0x92, 0, 1, 0, 0, 0, 0, 0, 0x65] := by decide

/-- The link rates of the straps (R183). -/
theorem test_strap_rates :
    (Link.reset false true).rate = 19200 ∧ (Link.reset true false).rate = 38400 := by decide

/-- A BANK of one header line in a stack, and the newest place (R87). -/
theorem test_stack_shift :
    pushKey [⟨[71, 76, 78], 4417⟩, ⟨[72, 81, 65], 12⟩] ⟨[80, 65, 82], 9⟩ =
      [⟨[71, 76, 78], 4417⟩, ⟨[72, 81, 65], 12⟩, ⟨[80, 65, 82], 9⟩] := by decide

/-- The wire clock at the end of a day (R81). -/
theorem test_clock_rolls :
    after (exec .wireClockAdvance { ready with time := { ready.time with clock := ⟨86399, 255⟩ } })
      (fun t => t.time.clock) = some ⟨0, 0⟩ := by decide

/-- 'A' sampled at 6.5 elements after its edge at rate code 1. -/
theorem test_sampled_character :
    after (exec (.characterReceived 5 1 .mark) (on fun r => (r.modPort 5 fun p => { p with inService := true }).modReceiver 5
      fun x => { x with state := .framing }))
      (fun t => (t.time.ticks, t.room.ports[(5 : Fin 24)].counters.characters,
        t.room.lines[(5 : Fin 16)].receiver.state)) = some (13000, 1, .waiting) := by decide

/-- The first host story of 04_story_store_and_directory.md stands in the lowest slot. -/
theorem test_story_open : after (exec (.storyOpen 2) ready) (fun t => t.room.link.txFrame) =
    some (some (.reply (doneReply 2 (.slot 0)))) := by decide +kernel

/-! ## Witnesses: steps, resets and time -/

theorem witness_StepAndIdleTick_front :
    ({ State.reset with pending := [.frameSent, .storyOpen 1] } : State).pending = .frameSent :: [.storyOpen 1] := rfl

theorem witness_StepAndIdleTick_idle : State.reset.pending = [] := rfl

theorem witness_CommandsLeaveTheQueue : ∃ t, exec .longReplyQueued State.reset = .next t := ⟨_, rfl⟩

theorem witness_PartStoreAndLinkAtReset : isFunctionCode (31 : Fin 32).val = true := by decide

/-- RESET FULL with its DONE frame in flight. -/
def fullReset : State := on fun r => r.modLink fun k => { k with resetting := some ⟨.full, []⟩ }

theorem witness_WholePartResetsAndClocks_resets :
    fullReset.room.link.resetting = some ⟨.full, []⟩ ∧ fullReset.room.link.replies = [] := by decide

theorem witness_WholePartResetsAndClocks_clocks :
    State.reset.time.settled = false ∧ ({ State.reset.time with clock := ⟨86398, 255⟩ } : Time).clock.seconds < 86399 ∧
      ({ State.reset.time with clock := ⟨86399, 255⟩ } : Time).clock.seconds = 86399 := by decide

/-! ## Witnesses: the part's settings -/

theorem witness_PartRequestsWriteOrRefuse_setup :
    Takes ready ∧ ((86399 : Nat) ≤ 86399 ∧ (255 : Nat) ≤ 255) ∧ (86399 : Nat) < 86400 ∧ (255 : Nat) < 256 ∧
      ((∀ n, (some 15 : Option Nat) = some n → n ≤ 15) ∧
        ∀ n, (some 256 : Option Nat) = some n → n ≤ 256 ∧ n ≤ ready.room.freeCount) ∧
      (∃ n, (some 16 : Option Nat) = some n ∧ 15 < n) ∧ ∃ n, (some 257 : Option Nat) = some n ∧ 256 < n :=
  ⟨takes_ready, by decide, by decide, by decide,
    ⟨fun _ h => Option.some.inj h ▸ by decide, fun _ h => Option.some.inj h ▸ by decide⟩,
    ⟨16, rfl, by decide⟩, 257, rfl, by decide⟩

theorem witness_PartRequestsWriteOrRefuse_route :
    Takes ready ∧ (47 < 48 ∧ (isLetter 122 = true ∨ 122 = 42) ∧ (isLetter 42 = true ∨ 42 = 42) ∧
      ∀ p ∈ [0, 23], p < 24) ∧
      47 < 48 ∧ (isLetter 91 = false ∧ 91 ≠ 42) ∧ ∃ p ∈ [0, 24], 23 < p :=
  ⟨takes_ready, by decide, by decide, by decide, 24, by decide, by decide⟩

/-- The factory settings with one used route, the last. -/
def oneRoute : Part := { Part.reset with routes := Part.reset.routes.set 47 (some ⟨42, 67, emptySet⟩) }

/-- A header of category UC. -/
def header : Header := ⟨[71, 76, 78], 4417, .urgent, [85, 67], none, none⟩

theorem oneRoute_below (j : Fin 48) (h : j < 47) : oneRoute.routes[j] = none := by revert j; decide

theorem oneRoute_last : oneRoute.routes[(47 : Fin 48)] = some ⟨42, 67, emptySet⟩ := by decide

theorem factory_routes (j : Fin 48) : Part.reset.routes[j] = none := by revert j; decide

theorem witness_RoutingTakesFirstMatch :
    (header.category = [85, 67] ∧ oneRoute.routes[(47 : Fin 48)] = some ⟨42, 67, emptySet⟩ ∧
      ((42 : Nat) = 42 ∨ (42 : Nat) = 85) ∧ ((67 : Nat) = 42 ∨ (67 : Nat) = 67) ∧
      ∀ (j : Fin 48) (f : Route), j < 47 → oneRoute.routes[j] = some f →
        (f.first ≠ 42 ∧ f.first ≠ 85) ∨ (f.second ≠ 42 ∧ f.second ≠ 67)) ∧
    (∀ (j : Fin 48) (f : Route), Part.reset.routes[j] = some f →
      (f.first ≠ 42 ∧ f.first ≠ 85) ∨ (f.second ≠ 42 ∧ f.second ≠ 67)) ∧
    header.category = { header with serial := 1 }.category :=
  ⟨⟨rfl, oneRoute_last, by decide, by decide, fun j f h e => by rw [oneRoute_below j h] at e; cases e⟩,
    (fun j f e => by rw [factory_routes j] at e; cases e), rfl⟩

theorem witness_PartRequestsWriteOrRefuse_keyword :
    Takes ready ∧
      (actionOf 0 = some .note ∧ isKeywordText (([70, 111, 120] : List Nat).map upper) = true) ∧
      (actionOf 2 = some .stop ∧ isKeywordText ((List.replicate 15 57).map upper) = true) ∧
      23 < 24 ∧ ([65, 66] : List Nat).length < 3 ∧ 15 < (List.replicate 16 65).length ∧
      (∃ c ∈ [65, 45, 66], isLetter c = false ∧ isDigit c = false ∧ c ≠ 32) ∧
      ([32, 65, 66] : List Nat).head? = some 32 ∧ ([65, 66, 32] : List Nat).getLast? = some 32 ∧
      (∃ x y, ([65, 32, 32, 66] : List Nat) = x ++ 32 :: 32 :: y) ∧ 2 < 3 :=
  ⟨takes_ready, by decide, by decide, by decide, by decide, by decide, ⟨45, by decide, by decide⟩, by decide, by decide,
    ⟨[65], [66], rfl⟩, by decide⟩

theorem witness_PartRequestsWriteOrRefuse_marker :
    let list : List (List Nat) := [[97, 98], [99, 99, 99, 99, 99, 99], [66, 75, 66, 75], [82, 83], [86, 68]]
    Takes ready ∧ ((∀ m ∈ list, 2 ≤ m.length ∧ m.length ≤ 6 ∧ ∀ x ∈ m, isLetter x = true) ∧
        (list.map fun m => m.map upper).Pairwise fun x y => ¬ x <+: y ∧ ¬ y <+: x) ∧
      ¬ ((∀ m ∈ [65] :: list.tail, 2 ≤ m.length ∧ m.length ≤ 6 ∧ ∀ x ∈ m, isLetter x = true) ∧
        (([65] :: list.tail).map fun m => m.map upper).Pairwise fun x y => ¬ x <+: y ∧ ¬ y <+: x) ∧
      ready.room.lines[(15 : Fin 16)].assembler.window = [] :=
  ⟨takes_ready, by decide, by decide, by decide⟩

/-- Two settled stories, the newer one held, with the threshold at the free count. -/
def twoSettled : State :=
  on fun r => { Room.story (Room.story r 3 settledStory) 255 { settledStory with held := true } with settled := [3, 255] }

theorem witness_ReclaimFreesUntilThreshold :
    twoSettled.room.waitList = Vector.replicate 16 false ∧ twoSettled.room.settled.Nodup ∧ twoSettled.room.stories[(255 : Fin 256)].held = true ∧
      (0 : Fin 256) ∉ twoSettled.room.settled ∧
      (3 ∈ twoSettled.room.settled ∧ 3 ∉ ({ twoSettled.room with freeCount := 0 }.reclaimTest ready.ctx).settled) ∧
      ready.ctx.part.threshold ≤ twoSettled.room.freeCount := by decide

theorem witness_TableLoadWritesOrRefuses :
    Takes ready ∧ (caseOf 1 = some .figures ∧ (31 : Nat) ≤ 31 ∧ 1 ≤ (List.replicate 64 (⟨0, 126⟩ : RawEntry)).length ∧
        (List.replicate 64 (⟨0, 126⟩ : RawEntry)).length ≤ 64 ∧
        (List.replicate 64 (⟨0, 126⟩ : RawEntry)).map RawEntry.entry = (List.replicate 64 (.print 126)).map some) ∧
      (isFunctionCode 30 = false ∧ isFunctionCode 31 = true) ∧ (Case.letters ≠ Case.figures) ∧
      ready.room.ports[linePort 0].inService = false ∧
      ((on fun r => Room.serve r 15).room.ports[linePort 15].inService = true ∧
        (on fun r => Room.serve r 15).room.lines[(15 : Fin 16)].decoder.side.source = 0 ∧
        (on fun r => Room.serve r 15).room.lines[(15 : Fin 16)].decoder.inLine = false ∧
        (on fun r => Room.serve r 15).room.lines[(15 : Fin 16)].sender.side.source = 0) ∧
      (3 < 4 ∧ 1 < 2 ∧ 31 < 32 ∧ 64 < (List.replicate 65 (⟨3, 0⟩ : RawEntry)).length) ∧
      (∃ e ∈ ([⟨4, 0⟩] : List RawEntry), 3 < e.kind) ∧
      (∃ e ∈ ([⟨0, 31⟩] : List RawEntry), e.kind = 0 ∧ (e.code < 32 ∨ 126 < e.code)) ∧
      ∃ e ∈ ([⟨0, 127⟩] : List RawEntry), e.kind = 0 ∧ (e.code < 32 ∨ 126 < e.code) :=
  ⟨takes_ready, by decide, by decide, by decide, by decide, by decide, by decide, ⟨⟨4, 0⟩, by decide, by decide⟩,
    ⟨⟨0, 31⟩, by decide, by decide⟩, ⟨0, 127⟩, by decide, by decide⟩

theorem witness_ReverseMapAndLookUp :
    let m : ReverseMap := ⟨[none, some 1, some 3, none], [none, some 5, none, some 6]⟩
    ((m.letters.getD 1 none = some 1 ∧ m.figures.getD 1 none = some 5) ∧
      (m.letters.getD 2 none = some 3 ∧ m.figures.getD 2 none = none) ∧
      (m.letters.getD 3 none = none ∧ m.figures.getD 3 none = some 6) ∧
      m.letters.getD 0 none = none ∧ m.figures.getD 0 none = none) ∧
    (97 ≤ 122 ∧ 122 ≤ 122) ∧
    (isFunctionCode (1 : Fin 32).val = false ∧ factoryTable.letters[(1 : Fin 32)] = some (.print 65) ∧
      ∀ d : Fin 32, d < 1 → isFunctionCode d.val = true) ∧
    (isFunctionCode (28 : Fin 32).val = false ∧ factoryTable.figures[(28 : Fin 32)] = some .ident ∧
      ∀ d : Fin 32, d < 28 → isFunctionCode d.val = true ∨ factoryTable.figures[d] ≠ some .ident) := by decide

/-! ## Witnesses: ports -/

theorem witness_PortSetupChecksAndWrites_ranges :
    0 ∈ [0, 2] ∧ 28 ∈ [3, 7, 11, 12, 17, 28] ∧ 22 ∈ [4, 22] ∧ 30 ∈ [13, 30] ∧ 18 ∈ [16, 18] ∧
      27 ∈ [23, 24, 25, 26, 27] ∧ 30 < 31 := by decide

/-- Line 15 and desk 7 in service. -/
def served : State := on fun r => Room.serve (Room.serve r 15) 23

theorem witness_PortSetupChecksAndWrites_checks :
    Takes served ∧ 23 < 24 ∧ (15 < 16 ∧ ∃ x ∈ ([⟨22, 0, []⟩] : List Setting), 21 < x.field ∨ settingValid x = false) ∧
      ¬ (([⟨7, 0, []⟩, ⟨7, 1, []⟩] : List Setting).map fun x => x.field).Nodup ∧
      (16 ≤ 16 ∧ 23 < 24 ∧
        ∃ x ∈ ([⟨20, 1, []⟩] : List Setting), (x.field ≠ 5 ∧ x.field < 21) ∨ settingValid x = false) ∧
      (23 = 16 + (7 : Fin 8).val ∧
        ¬ (([⟨23, 17, []⟩] : List Setting).foldl DeskSettings.write served.room.desks[(7 : Fin 8)].settings).codes.Nodup ∧
        10 ∈ (([⟨24, 10, []⟩] : List Setting).foldl DeskSettings.write served.room.desks[(7 : Fin 8)].settings).codes ∧
        13 ∈ (([⟨27, 13, []⟩] : List Setting).foldl DeskSettings.write served.room.desks[(7 : Fin 8)].settings).codes) ∧
      (15 = (15 : Fin 24).val ∧ (15 : Fin 24).val < 16 ∧ served.room.ports[(15 : Fin 24)].inService = true ∧
        (∀ x ∈ ([⟨21, 60, []⟩, ⟨2, 2, []⟩] : List Setting), x.field ≤ 21 ∧ settingValid x = true) ∧
        (([⟨21, 60, []⟩, ⟨2, 2, []⟩] : List Setting).map fun x => x.field).Nodup ∧
        ∃ x ∈ ([⟨21, 60, []⟩, ⟨2, 2, []⟩] : List Setting), x.field ≤ 2) ∧
      ((([] : List Setting).foldl DeskSettings.write served.room.desks[(7 : Fin 8)].settings).codes.Nodup ∧
        10 ∉ (([] : List Setting).foldl DeskSettings.write served.room.desks[(7 : Fin 8)].settings).codes ∧
        13 ∉ (([⟨22, 3, []⟩] : List Setting).foldl DeskSettings.write served.room.desks[(7 : Fin 8)].settings).codes) ∧
      served.room.ports[deskPort 7].inService = true ∧
      (∀ x ∈ ([⟨22, 3, []⟩] : List Setting), (x.field = 5 ∨ 21 ≤ x.field) ∧ settingValid x = true) ∧
      ∃ x ∈ ([⟨22, 3, []⟩] : List Setting), x.field = 22 :=
  ⟨takes_of (by decide), by decide, by decide, by decide, by decide, by decide, by decide, by decide, by decide, by decide,
    by decide⟩

theorem witness_PortSetupChecksAndWrites_plain :
    Takes ready ∧ (ready.room.ports[linePort 15].inService = false ∧ 4 < 5 ∧ stopLengthOf 2 = some .two) ∧ 1 < 2 ∧
      ((List.replicate 20 126).length ≤ 20 ∧ ∀ c ∈ List.replicate 20 126, 32 ≤ c ∧ c ≤ 126) ∧ (1 ≤ 3 ∧ 3 ≤ 3) ∧
      (ready.room.ports[deskPort 7].inService = false ∧
        ready.room.desks[(7 : Fin 8)].settings.codes.Nodup ∧ 10 ∉ ready.room.desks[(7 : Fin 8)].settings.codes ∧
        13 ∉ ready.room.desks[(7 : Fin 8)].settings.codes) ∧
      ({ ready.room.desks[(7 : Fin 8)].settings with pauseCode := 31 }.codes.Nodup ∧
        { ready.room.desks[(7 : Fin 8)].settings with resumeCode := 0 }.codes.Nodup ∧
        { ready.room.desks[(7 : Fin 8)].settings with fileCode := 31 }.codes.Nodup ∧
        { ready.room.desks[(7 : Fin 8)].settings with cancelCode := 31 }.codes.Nodup ∧
        { ready.room.desks[(7 : Fin 8)].settings with rubout := 31 }.codes.Nodup ∧
        10 ∉ { ready.room.desks[(7 : Fin 8)].settings with rubout := 31 }.codes) ∧
      (32 ≤ 126 ∧ 126 ≤ 126) ∧ ((31 : Nat) ≤ 31 ∨ 31 = 127) :=
  ⟨takes_ready, by decide, by decide, by decide, by decide, by decide, by decide, by decide, by decide⟩

/-- Line 3 in service and sending. -/
def sending : State := on fun r => Room.both r 3 .sending

theorem witness_PortSetupChecksAndWrites_staged :
    Takes ready ∧ ready.room.ports[linePort 3].inService = false ∧ Takes sending ∧
      (sending.room.ports[linePort 3].inService = true ∧ sending.room.lines[(3 : Fin 16)].sender.machine = .sending) ∧
      (20 ≤ 20 ∧ 96 ≤ 96) ∧ 2000 ≤ 2000 ∧ 7 ≤ 7 ∧ 32 ≤ 32 ∧ 126 ≤ 126 :=
  ⟨takes_ready, by decide, takes_of (by decide), by decide, by decide⟩

/-- Line 0, in a mode, and desk 0 out of service, each with a held story in its queue. -/
def waitingOut (mode : Mode) : State :=
  on fun r =>
    let r := Room.story r 9 { filedStory with held := true }
    let r := r.modLine 0 fun x => { x with settings := { x.settings with mode := mode } }
    (r.modPort 0 fun p => { p with queue := [⟨9, .urgent, 0⟩] }).modPort 16 fun p =>
      { p with queue := [⟨9, .ordinary, 0⟩] }

theorem witness_PortStartEntersService :
    Takes (waitingOut .send) ∧ Takes (waitingOut .both) ∧ (waitingOut .send).room.ports[linePort 0].inService = false ∧
      (∀ e ∈ (waitingOut .send).room.ports[linePort 0].queue, (waitingOut .send).room.stories[e.slot].held = true) ∧
      (waitingOut .send).room.lines[(0 : Fin 16)].settings.mode = .send ∧
      (waitingOut .both).room.lines[(0 : Fin 16)].settings.mode = .both ∧
      (waitingOut .receive).room.lines[(0 : Fin 16)].settings.mode = .receive ∧
      (waitingOut .both).room.ports[linePort 0].inService = false ∧
      (∀ e ∈ (waitingOut .both).room.ports[linePort 0].queue, (waitingOut .both).room.stories[e.slot].held = true) ∧
      (waitingOut .both).room.ports[deskPort 0].inService = false ∧
      ∀ e ∈ (waitingOut .both).room.ports[deskPort 0].queue, (waitingOut .both).room.stories[e.slot].held = true :=
  ⟨takes_of (by decide), takes_of (by decide), by decide, by decide, by decide, by decide, by decide, by decide,
    by decide, by decide, by decide⟩

/-- Line 5 in service within a text line, its sender SENDING; and at rest outside one. -/
def textLine : State :=
  on fun r => (Room.both r 5 .sending).modLine 5 fun x => { x with decoder := { x.decoder with inLine := true } }

def restLine : State := on fun r => Room.both r 5 .quiet

/-- Line 5 assembling story 9, its inactivity timer running. -/
def longLine (f : Assembler → Assembler) : State :=
  on fun r => (Room.story (Room.both r 5 .quiet) 9 { hostStory with origin := some (.line 5) }).modLine 5 fun x =>
    { x with assembler := f { x.assembler with timer := some 40, markers := r.lines[(5 : Fin 16)].assembler.markers } }

/-- Port 23 out of service with an entry five minutes old and a new one. -/
def dueAtFive : State :=
  { on (fun r => (Room.story r 9 filedStory).modPort 23 fun p =>
      { p with queue := [⟨8, .ordinary, 300⟩, ⟨9, .ordinary, 0⟩] }) with
    time := { State.reset.time with seconds := 300 } }

theorem witness_PortSetupOtherFields :
    Takes ready ∧ Takes textLine ∧ Takes restLine ∧ Takes dueAtFive ∧
    (ready.room.ports[linePort 5].inService = false ∧ modeOf 2 = some .both ∧ ready.room.ports[linePort 5].queue = [] ∧
      (1 < 2 ∧ 3 < 4)) ∧
    ((waitingOut .both).room.ports[linePort 0].inService = false ∧ modeOf 0 = some .receive ∧
      (waitingOut .both).room.ports[linePort 0].queue = [⟨9, .urgent, 0⟩] ∧ (23 : Fin 24) ≠ linePort 0) ∧
    (textLine.room.ports[linePort 5].inService = true ∧ (at5 textLine).decoder.inLine = true ∧
      (at5 textLine).sender.machine = .sending) ∧
    (restLine.room.ports[linePort 5].inService = true ∧ (at5 restLine).decoder.inLine = false ∧
      (at5 restLine).sender.machine ≠ .sending ∧ (at5 restLine).decoder.side.refresh = false ∧
      (at5 restLine).decoder.side.staged = none ∧ (at5 restLine).decoder.stagedUnshift = none ∧
      (at5 restLine).sender.side.refresh = false ∧ (at5 restLine).sender.side.staged = none ∧
      (at5 restLine).sender.staged = StagedSend.none ∧ (at5 restLine).decoder.side.inForce ≠ 3 ∧
      (at5 restLine).sender.side.inForce ≠ 3) ∧
    ((at5 restLine).assembler.markers = restLine.part.markers ∧ (at5 restLine).sender.identify.phase ≠ .awaiting ∧
      (at5 restLine).assembler.current = none ∧ (at5 restLine).assembler.suspended = none ∧ 256 ≤ 256 ∧
      16384 ≤ 16384) ∧
    ((at5 (longLine fun x => { x with current := some 9 })).assembler.current = some 9 ∧
      (at5 (longLine fun x => { x with current := some 9 })).assembler.markers = ready.part.markers ∧
      ¬ 256 < (slot9 (longLine id)).text.length + 0) ∧
    (at5 (longLine fun x => { x with suspended := some 9 })).assembler.suspended = some 9 ∧
    256 < (slot9 (nine { hostStory with text := List.replicate 257 65 }
      (longLine fun x => { x with current := some 9 }))).text.length ∧
    ((at5 (longLine id)).assembler.timer = some 40 ∧ (longLine id).time.ticks < 40 + 5 * 100000) ∧
    ({ longLine (fun x => { x with machine := .hunt }) with
        time := { ready.time with ticks := 500040 } } : State).time.ticks = 40 + 5 * 100000 ∧
    (at5 (longLine fun x => { x with machine := .hunt })).assembler.machine = .hunt ∧
    ((at5 restLine).sender.machine ≠ .starting ∧ (at5 restLine).sender.machine ≠ .ready ∧
      (at5 restLine).sender.identify.phase ≠ .collecting) ∧
    ((∀ l : Fin 16, 23 = linePort l → dueAtFive.room.lines[l].sender.machine = .out) ∧
      (∀ d : Fin 8, 23 = deskPort d →
        dueAtFive.room.desks[d].state = .out ∧ dueAtFive.room.desks[d].settings.codesAgree = true) ∧
      dueAtFive.room.ports[(23 : Fin 24)].queue = [⟨8, .ordinary, 300⟩] ++ ⟨9, .ordinary, 0⟩ :: [] ∧
      60 * 5 ≤ (dueAtFive.time.seconds - 0).toNat ∧ ¬ 60 * 5 ≤ (dueAtFive.time.seconds - 300).toNat) ∧
    ((at7 ready).settings.codesAgree = true ∧ (at7 ready).stall = none) := by
  refine ⟨takes_ready, takes_of (by decide), takes_of (by decide), takes_of (by decide), by decide, by decide, by decide,
    by decide, by decide, by decide, by decide, by decide +kernel, by decide, by decide, by decide, by decide, by decide,
    by decide⟩

/-- Line 2 in service in mode BOTH, with its sender changed. -/
def line2 (f : Sender → Sender) : State :=
  on fun r => (Room.both r 2 .quiet).modLine 2 fun x =>
    { x with settings := { x.settings with expected := [65] }, sender := f x.sender }

/-- Line 2 collecting in a try. -/
def collecting (tryNumber : Nat) (case : SendCase) : State :=
  { line2 (fun x => { x with
      machine := .identifying, case := case
      identify := { x.identify with
        phase := .collecting, request := true, tryNumber := tryNumber, timer := some 7, collector := [65] } }) with
    room := (line2 (fun x => { x with
      machine := .identifying, case := case
      identify := { x.identify with
        phase := .collecting, request := true, tryNumber := tryNumber, timer := some 7, collector := [65] } })).room.modLink
      fun k => { k with records := [⟨.line 2, 4⟩] } }

theorem witness_PortRequestRefusals :
    Takes (line2 id) ∧ 23 < 24 ∧ (served.room.ports[linePort 15].inService = true ∧
        served.room.lines[(15 : Fin 16)].sender.stopPending = none) ∧
      (line2 fun x => { x with stopPending := some .drain }).room.lines[(2 : Fin 16)].sender.stopPending ≠ none ∧
      served.room.ports[deskPort 7].inService = true ∧ ready.room.ports[(23 : Fin 24)].inService = false ∧ 15 < 16 ∧
      (served.room.lines[(15 : Fin 16)].settings.mode ≠ .both) ∧
      ((line2 id).room.ports[linePort 2].inService = true ∧ (line2 id).room.lines[(2 : Fin 16)].settings.mode = .both ∧
        (line2 id).room.lines[(2 : Fin 16)].sender.stopPending = none ∧
        (line2 id).room.ports[linePort 2].conditions.broken = false) ∧
      (((line2 id).room.modPort 2 fun p => { p with conditions := { p.conditions with broken := true } }).ports[
        linePort 2].conditions.broken = true) ∧
      (line2 fun x => { x with identify := { x.identify with phase := .calling } }).room.lines[
        (2 : Fin 16)].sender.identify.phase ≠ .none ∧
      ((line2 fun x => { x with identPos := none }).room.lines[(2 : Fin 16)].sender.identPos = none ∧
        (line2 id).room.lines[(2 : Fin 16)].sender.identify.phase = .none) :=
  ⟨takes_of (by decide), by decide, by decide, by decide, by decide, by decide, by decide, by decide, by decide, by decide,
    by decide, by decide⟩

theorem witness_PortStop_line :
    Takes sending ∧ (sending.room.ports[linePort 3].inService = true ∧
        sending.room.lines[(3 : Fin 16)].assembler.current = none ∧
        sending.room.lines[(3 : Fin 16)].assembler.suspended = none ∧
        sending.room.lines[(3 : Fin 16)].assembler.window = [] ∧
        sending.room.lines[(3 : Fin 16)].sender.identify.phase = .none ∧
        sending.room.lines[(3 : Fin 16)].sender.machine = .sending ∧
        sending.room.lines[(3 : Fin 16)].sender.machine ≠ .identifying) ∧
      Takes (line2 id) ∧ ((line2 id).room.ports[linePort 2].inService = true ∧
        (line2 id).room.lines[(2 : Fin 16)].sender.identify.phase = .none ∧
        (line2 id).room.lines[(2 : Fin 16)].sender.machine = .quiet ∧
        (line2 id).room.lines[(2 : Fin 16)].sender.machine ≠ .identifying ∧
        (line2 id).room.lines[(2 : Fin 16)].sender.txChar = none) :=
  ⟨takes_of (by decide), by decide, takes_of (by decide), by decide⟩

/-- Desk 7 delivering. -/
def delivering : State :=
  on fun r => (Room.serve (Room.story r 9 { filedStory with pendingSet := emptySet.set 23 true }) 23).modDesk 7 fun d =>
    { d with state := .delivering, current := some ⟨9, .urgent⟩, output := .story (.text 0), stall := some 100 }

theorem witness_PortStop_desk :
    Takes delivering ∧ delivering.room.ports[deskPort 7].inService = true ∧
      delivering.room.desks[(7 : Fin 8)].composing = none ∧
      delivering.room.desks[(7 : Fin 8)].current = some ⟨9, .urgent⟩ :=
  ⟨takes_of (by decide), by decide⟩

/-- A sender BLOCKED within a character, which RESET TRAFFIC clears at its end, its start wait 0. -/
def blockedInCharacter : State :=
  on fun r => (Room.both r 2 .blocked).modLine 2 fun x => { x with
    settings := { x.settings with expected := [65], startWait := 0 }
    sender := { x.sender with txChar := some (.cr, 7), halt := .reset } }

theorem witness_IdentifyBegins :
    Takes (line2 id) ∧ ((line2 id).room.ports[linePort 2].inService = true ∧
        (line2 id).room.lines[(2 : Fin 16)].settings.mode = .both ∧
        (line2 id).room.lines[(2 : Fin 16)].sender.stopPending = none ∧
        (line2 id).room.ports[linePort 2].conditions.broken = false ∧
        (line2 id).room.lines[(2 : Fin 16)].sender.identify.phase = .none ∧
        (line2 id).room.lines[(2 : Fin 16)].sender.identPos ≠ none ∧
        (line2 id).room.lines[(2 : Fin 16)].settings.expected ≠ []) ∧
      (line2 fun x => { x with machine := .sending }).room.lines[(2 : Fin 16)].sender.machine = .sending ∧
      ((line2 id).room.lines[(2 : Fin 16)].sender.machine = .quiet ∧
        (line2 id).room.lines[(2 : Fin 16)].sender.txChar = none ∧
        (line2 id).room.lines[(2 : Fin 16)].sender.activity = .idle ∧
        (line2 id).room.lines[(2 : Fin 16)].sender.halt = .none ∧
        (line2 id).room.lines[(2 : Fin 16)].settings.startWait ≠ 0) ∧
      (blockedInCharacter.room.lines[(2 : Fin 16)].sender.txChar ≠ none ∧
        blockedInCharacter.room.lines[(2 : Fin 16)].sender.identPos ≠ none) ∧
      (line2 fun x => { x with machine := .blocked }).room.lines[(2 : Fin 16)].sender.machine = .blocked ∧
      (line2 fun x => { x with machine := .blocked }).room.lines[(2 : Fin 16)].sender.txChar = none ∧
      ((at2 (line2 fun x => { x with machine := .ready })).sender.machine = .ready ∧
        (at2 (line2 fun x => { x with machine := .ready })).sender.side.refresh = false ∧
        (at2 (line2 fun x => { x with machine := .ready })).assembler.machine ≠ .hunt) :=
  ⟨takes_of (by decide), by decide, by decide, by decide, by decide, by decide, by decide⟩

/-- Line 2 at the end of its start wait, with identify-before-send, its window and IDENT position as given. -/
def identifying (window : List Cell) (position : Option Nat) : State :=
  { line2 id with room := (line2 fun x => { x with
    machine := .starting, startTimer := some 7, identPos := position }).room.modLine 2 fun x => { x with
      settings := { x.settings with identifyBefore := true }
      assembler := { x.assembler with machine := .hunt, window := window } } }

theorem witness_IdentifyBegins_startWait :
    ((at2 (identifying [86] (some 26))).sender.machine = .starting ∧
      (at2 (identifying [86] (some 26))).sender.startTimer = some 7 ∧
      (at2 (identifying [86] (some 26))).sender.answerPending = false ∧
      (at2 (identifying [86] (some 26))).sender.txChar = none ∧
      (at2 (identifying [86] (some 26))).sender.side.refresh = false ∧
      (at2 (identifying [86] (some 26))).settings.mode = .both ∧
      (at2 (identifying [86] (some 26))).settings.identifyBefore = true ∧
      (at2 (identifying [86] (some 26))).assembler.window ≠ []) ∧
    ((at2 (identifying [] (some 26))).assembler.machine = .hunt ∧
      (at2 (identifying [] (some 26))).assembler.window = [] ∧
      (at2 (identifying [] (some 26))).sender.identPos = some 26) ∧
    ((at2 (identifying [] none)).sender.machine = .starting ∧ (at2 (identifying [] none)).sender.identPos = none ∧
      (at2 (identifying [] none)).sender.identify.request = false ∧ (at2 (identifying [] none)).sender.current = none ∧
      (at2 (identifying [] none)).sender.suspension = .empty) := by decide

/-- R119, R159: the exchange of identify-before-send begins with a figures shift. -/
theorem test_start_wait_identify :
    after (exec (.startWaitEnd 2) (identifying [] (some 26))) (fun t =>
      ((at2 t).sender.txChar.map fun x => x.1, (at2 t).sender.codes, (at2 t).sender.identify.tryNumber)) =
        some (some (.shift .figures), [.ident 26], 1) := by decide

/-- R163, R200: the character that RESET TRAFFIC found in progress ends before the exchange asked for within it begins. -/
theorem test_identify_waits :
    after (exec (.identify 1 2) blockedInCharacter) (fun t =>
      ((at2 t).sender.machine, (at2 t).sender.txChar, (at2 t).sender.identify.phase)) =
        some (.blocked, some (.cr, 7), .pending) := by decide

/-! ## Witnesses: stories -/

/-- Eight host stories not yet closed. -/
def eightOpen : State :=
  on fun r => ([0, 1, 2, 3, 4, 5, 6, 7] : List (Fin 256)).foldl (fun r i => Room.story r i hostStory) r

/-- Every slot in use, or FREE with a notice pending. -/
def fullDirectory : State :=
  on fun r => Room.story { r with stories := Vector.replicate 256 settledStory } 255
    { Story.blank with noticePending := true }

/-- Every slot but the last settled. -/
def lastFree : State :=
  on fun r => Room.story { r with stories := Vector.replicate 256 settledStory } 255 Story.blank

theorem witness_StoryOpenAndAppend_open :
    Takes eightOpen ∧ 8 ≤ eightOpen.room.hostStories ∧ Takes fullDirectory ∧ fullDirectory.room.hostStories < 8 ∧
      (∀ i : Fin 256, fullDirectory.room.stories[i].state ≠ .free ∨
        fullDirectory.room.stories[i].noticePending = true) ∧
      Takes lastFree ∧ lastFree.room.hostStories < 8 ∧ lastFree.room.stories[(255 : Fin 256)].state = .free ∧
      lastFree.room.stories[(255 : Fin 256)].noticePending = false ∧
      ∀ j : Fin 256, j < 255 → lastFree.room.stories[j].state ≠ .free ∨ lastFree.room.stories[j].noticePending = true :=
  ⟨takes_on rfl, by decide +kernel, takes_on rfl, by decide +kernel, by decide +kernel,
    takes_on rfl, by decide +kernel, by decide +kernel, by decide +kernel, by decide +kernel⟩

/-- One story in slot 255. -/
def withStory (x : Story) : State := on fun r => Room.story r 255 x

/-- A host story at its limit. -/
def fullStory : Story := { hostStory with text := List.replicate 8192 65, chain := List.range 128 }

theorem witness_StoryOpenAndAppend_append :
    (Takes (withStory hostStory) ∧ (withStory hostStory).room.stories[(255 : Fin 256)].state = .assembling ∧
      (withStory hostStory).room.stories[(255 : Fin 256)].origin = some .host ∧
      (withStory hostStory).room.stories[(255 : Fin 256)].closed = false ∧
      ([7, 10, 32, 126, 128] : List Nat).length ≤ 200 ∧
      (∀ c ∈ ([7, 10, 32, 126, 128] : List Nat), c = 7 ∨ c = 10 ∨ (32 ≤ c ∧ c ≤ 126) ∨ c = 128) ∧
      (withStory hostStory).room.stories[(255 : Fin 256)].text.length + 61 ≤
        64 * (withStory hostStory).room.stories[(255 : Fin 256)].chain.length) ∧
    (Takes (withStory fullStory) ∧ 8192 ≤ fullStory.text.length) ∧
    ∀ c ∈ ([0, 31, 127, 129, 255] : List Nat), c ≠ 7 ∧ c ≠ 10 ∧ (c < 32 ∨ 126 < c) ∧ c ≠ 128 :=
  ⟨⟨takes_of (by decide), by decide⟩, ⟨takes_on rfl, Nat.le_of_eq List.length_replicate.symm⟩, by decide⟩

theorem witness_StoryReadListAndRefusals_refusals :
    Takes ready ∧ 255 < 256 ∧ 200 < (List.replicate 201 65).length ∧
      ready.room.stories[(0 : Fin 256)].state ≠ .assembling ∧
      (withStory { hostStory with origin := some (.line 0) }).room.stories[(255 : Fin 256)].origin ≠ some .host ∧
      (withStory { hostStory with closed := true }).room.stories[(255 : Fin 256)].closed = true ∧
      (List.replicate 200 65).length ≤ 200 ∧ ready.room.stories[(255 : Fin 256)].state = .free ∧
      (withStory hostStory).room.stories[(255 : Fin 256)].state = .assembling ∧
      (([23] : List Nat) ≠ [] ∧ ∀ p ∈ [23], p < 24) ∧
      (withStory filedStory).room.stories[(255 : Fin 256)].state = .filed ∧
      ((withStory { settledStory with held := true }).room.stories[(255 : Fin 256)].state = .settled ∧
        (withStory { settledStory with held := true }).room.stories[(255 : Fin 256)].held = true) ∧
      (withStory settledStory).room.stories[(255 : Fin 256)].state ≠ .free ∧ ∃ p ∈ [0, 24], 23 < p :=
  ⟨takes_ready, by decide, by rw [List.length_replicate]; decide, by decide, by decide, by decide,
    by rw [List.length_replicate], by decide, by decide, by decide, by decide, by decide, by decide, 24, by decide,
    by decide⟩

/-- An empty host story. -/
def emptyStory : Story := { hostStory with text := [], chain := [] }

/-- A story at the end of its chain with nothing in the pool. -/
def poolEmpty : State :=
  on fun r => { Room.story r 255 { hostStory with text := List.replicate 64 65 } with pool := [], freeCount := 0 }

theorem witness_StoryOpenAndAppend_blocks :
    (Takes (withStory emptyStory) ∧ (withStory emptyStory).room.settled = [] ∧
      (withStory emptyStory).room.freeCount = (withStory emptyStory).room.pool.length ∧
      emptyStory.text.length ≤ 64 * emptyStory.chain.length ∧ emptyStory.text.length + 1 ≤ 8192 ∧
      0 + (([0, 65] : List Nat).filter fun c => decide (c = 7 ∨ c = 10 ∨ (32 ≤ c ∧ c ≤ 126) ∨ c = 128)).length ≤
        64 * (0 + (withStory emptyStory).room.freeCount)) ∧
    (Takes poolEmpty ∧ poolEmpty.room.settled = [] ∧ poolEmpty.room.freeCount = poolEmpty.room.pool.length ∧
      poolEmpty.room.stories[(255 : Fin 256)].text.length + 0 =
        64 * (poolEmpty.room.stories[(255 : Fin 256)].chain.length + poolEmpty.room.freeCount) ∧
      64 * (1 + 0) < 8192 ∧ ([0, 65, 66] : List Nat) = [0] ++ 65 :: [66]) :=
  ⟨⟨takes_of (by decide), by decide +kernel⟩, takes_of (by decide), by decide⟩

/-- Story 9 being closed, with its scan context, and the default set naming a port. -/
def closing (x : Story) (dest : Vector Bool 24) : State :=
  { on (fun r => { Room.story r 9 x with scans := r.scans.set 9 (some ⟨4, true, 0, []⟩) }) with
    part := { Part.reset with defaultSet := dest } }

/-- A host story whose first line is a header. -/
def headedStory : Story :=
  { hostStory with text := [71, 76, 78, 32, 52, 32, 85, 32, 69, 67, 10, 65], textLines := 1 }

theorem witness_StoryCloseHandsOn :
    (Takes (withStory emptyStory) ∧ (withStory emptyStory).room.stories[(255 : Fin 256)].state = .assembling ∧
      (withStory emptyStory).room.stories[(255 : Fin 256)].origin = some .host ∧
      (withStory emptyStory).room.stories[(255 : Fin 256)].closed = false ∧
      (withStory emptyStory).room.stories[(255 : Fin 256)].text = [] ∧
      (withStory emptyStory).room.stories[(255 : Fin 256)].chain = []) ∧
    (Takes (closing hostStory emptySet) ∧ (slot9 (closing hostStory emptySet)).state = .assembling ∧
      (slot9 (closing hostStory emptySet)).text ≠ [] ∧
      (closing hostStory emptySet).room.scans[(9 : Fin 256)] = some ⟨4, true, 0, []⟩ ∧
      (⟨4, true, 0, []⟩ : Scan).edge Part.reset.keywords emptySet = emptySet ∧
      (slot9 (closing hostStory emptySet)).pendingSet = emptySet ∧ parseHeader hostStory.text = none ∧
      setMembers ((closing hostStory emptySet).part.route none) = [] ∧
      (closing hostStory emptySet).part.threshold ≤ (closing hostStory emptySet).room.freeCount) ∧
    (Takes (closing headedStory (emptySet.set 23 true)) ∧
      parseHeader headedStory.text = some ⟨[71, 76, 78], 4, .urgent, [69, 67], none, none⟩ ∧
      setMembers ((closing headedStory (emptySet.set 23 true)).part.route
        (some ⟨[71, 76, 78], 4, .urgent, [69, 67], none, none⟩)) = [23] ∧
      (closing headedStory (emptySet.set 23 true)).room.load 23 < 32 ∧
      (∀ l : Fin 16, 23 = linePort l →
        (closing headedStory (emptySet.set 23 true)).room.lines[l].sender.machine = .out) ∧
      ∀ d : Fin 8, 23 = deskPort d →
        (closing headedStory (emptySet.set 23 true)).room.desks[d].state = .out) :=
  ⟨⟨takes_of (by decide), by decide⟩, ⟨takes_of (by decide), by decide⟩, takes_of (by decide), by decide +kernel,
    by decide +kernel⟩

theorem witness_StoryCloseHandsOn_ports :
    let s := closing hostStory ((emptySet.set 23 true).set 0 true)
    ((slot9 s).missedSet = emptySet ∧ (slot9 s).doneSet = emptySet ∧ s.part.threshold ≤ s.room.freeCount) ∧
      AllOut s (s.part.route (parseHeader (slot9 s).text)) :=
  ⟨by decide, by unfold AllOut; decide +kernel⟩

/-- The header line of `headedStory` is parsed. -/
theorem witness_HeaderLineIsParsed :
    parseHeader headedStory.text = some ⟨[71, 76, 78], 4, .urgent, [69, 67], none, none⟩ := by decide +kernel

/-- One keyword, "ABC", in entry 23. -/
def oneKeyword : Vector (Option Keyword) 24 := (Vector.replicate 24 none).set 23 (some ⟨[65, 66, 67], .raise⟩)

theorem witness_KeywordsAreScanned_scan :
    (∀ (i : Fin 24) (k : Keyword), oneKeyword[i] = some k → keywordLegal k) ∧
    ([65, 66, 67, 10, 66, 10] ++ [65] : List Cell) = [65, 66, 67, 10, 66, 10, 65] ∧
    ((1 : Nat) ≠ 0 ∧ ([65, 66, 67, 10, 66, 10] : List Cell).count 10 = 1 + 1 ∧
      ([65, 66, 67, 10, 66, 10] : List Cell).getLast? = some 10) ∧
    ([10, 65, 66, 67] : List Cell).count 10 ≤ 1 ∧ oneKeyword[(23 : Fin 24)] = some ⟨[65, 66, 67], .raise⟩ ∧
    ([98, 10] : List Cell).map upper = [66, 10] ∧ isBoundary 10 = true := by
  refine ⟨fun i k h => ?_, rfl, by decide, by decide, by decide, by decide, by decide⟩
  have a : ∀ i : Fin 24, (oneKeyword[i]).all (fun k => isKeywordText k.text) = true := by decide
  have b := a i
  rw [h] at b
  exact b

theorem witness_KeywordsAreScanned_actions :
    (emptySet.set 23 true)[(23 : Fin 24)] = true ∧ oneKeyword[(23 : Fin 24)] = some ⟨[65, 66, 67], .raise⟩ ∧
      (⟨[65, 66, 67], .raise⟩ : Keyword).action = .raise ∧ ∀ i : Fin 24, (emptySet : KeywordSet)[i] = false := by decide

theorem witness_KeywordsAreScanned_commands :
    Takes (closing hostStory emptySet) ∧ (slot9 (closing hostStory emptySet)).state = .assembling ∧
      (slot9 (closing hostStory emptySet)).origin = some .host ∧
      (slot9 (closing hostStory emptySet)).closed = false ∧
      (closing hostStory emptySet).room.scans[(9 : Fin 256)] = some ⟨4, true, 0, []⟩ ∧
      (∀ c ∈ ([7, 10, 32, 126, 128] : List Nat), c = 7 ∨ c = 10 ∨ (32 ≤ c ∧ c ≤ 126) ∨ c = 128) ∧
      (slot9 (closing hostStory emptySet)).text.length + 61 ≤ 64 * (slot9 (closing hostStory emptySet)).chain.length ∧
      (slot9 (closing hostStory emptySet)).text ≠ [] ∧ parseHeader hostStory.text = none ∧
      (closing hostStory emptySet).part.defaultSet = emptySet ∧
      (slot9 (closing hostStory emptySet)).pendingSet = emptySet ∧
      (slot9 (closing hostStory emptySet)).held = false ∧
      (closing hostStory emptySet).part.threshold ≤ (closing hostStory emptySet).room.freeCount :=
  ⟨takes_of (by decide), by decide +kernel⟩

theorem witness_StoryReadListAndRefusals_reads :
    Takes (withStory settledStory) ∧ 255 < 256 ∧ 200 < 201 ∧
      (255 = (255 : Fin 256).val ∧ 1 ≤ 200 ∧ 200 ≤ 200 ∧
        (withStory settledStory).room.stories[(255 : Fin 256)].state ≠ .free) ∧
      (withStory settledStory).room.stories[(0 : Fin 256)].state = .free ∧
      (3, StoryState.settled) ∈ [(1, StoryState.assembling), (2, StoryState.filed), (3, StoryState.settled)] ∧
      3 < 4 :=
  ⟨takes_of (by decide), by decide⟩

theorem witness_StatusReportsAndRefuses_reports :
    Takes (withStory settledStory) ∧ (withStory settledStory).room.stories[(255 : Fin 256)].state ≠ .free :=
  ⟨takes_of (by decide), by decide⟩

theorem witness_StatusReportsAndRefuses_refusals :
    Takes ready ∧ 2 < (3 : Octet).toNat ∧ (255 : Nat) ≠ 0 ∧ 23 < 24 ∧ 255 < 256 ∧
      ready.room.stories[(255 : Fin 256)].state = .free :=
  ⟨takes_ready, by decide⟩

/-- A filed story of two text lines, the second with a garble mark. -/
def twoLines : Story := { filedStory with text := [65, 10, 66, 128, 10, 67], textLines := 2, garbles := 1 }

/-- What every clause on a line of a FILED story asks, of its second line with or without a line end behind it. -/
abbrev SecondLine (s : State) (old tail cells : List Nat) : Prop :=
  s.room.stories[(255 : Fin 256)].state = .filed ∧ s.room.stories[(255 : Fin 256)].begun = false ∧
    s.room.stories[(255 : Fin 256)].text = [65, 10] ++ old ++ tail ∧ ([65, 10] : List Nat).getLast? = some 10 ∧
    10 ∉ old ∧ (tail.head? = some 10 ∨ (tail = [] ∧ old ≠ [])) ∧
    s.room.stories[(255 : Fin 256)].textLines = s.room.stories[(255 : Fin 256)].text.count 10 ∧
    cells.length ≤ 200 ∧ ∀ c ∈ cells, c = 7 ∨ (32 ≤ c ∧ c ≤ 126) ∨ c = 128

/-- A filed story whose last line has no line end, of two blocks when long. -/
def lastLine (n : Nat) (limit : Nat) : Story :=
  { filedStory with
    text := [65, 10] ++ List.replicate n 65, textLines := 1, limit := limit, chain := List.range (blocksFor (2 + n)) }

theorem witness_LineReplaceWritesLine_refusals :
    Takes (withStory twoLines) ∧ 255 < 256 ∧ 200 < (List.replicate 201 65).length ∧
      (ready.room.stories[(255 : Fin 256)].state = .free ∧
        (withStory hostStory).room.stories[(255 : Fin 256)].state = .assembling ∧
        (withStory settledStory).room.stories[(255 : Fin 256)].state = .settled ∧
        (withStory { twoLines with begun := true }).room.stories[(255 : Fin 256)].begun = true) ∧
      ((withStory twoLines).room.stories[(255 : Fin 256)].state = .filed ∧
        (withStory twoLines).room.stories[(255 : Fin 256)].begun = false ∧
        (∃ c ∈ ([65, 10] : List Nat), ¬(c = 7 ∨ (32 ≤ c ∧ c ≤ 126) ∨ c = 128)) ∧
        (withStory twoLines).room.stories[(255 : Fin 256)].textLines +
          (if (withStory twoLines).room.stories[(255 : Fin 256)].text.getLast? = some 10 then 0 else 1) ≤ 3) :=
  ⟨takes_of (by decide), by decide, by rw [List.length_replicate]; decide, by decide, by decide⟩

theorem witness_LineReplaceWritesLine_same :
    SecondLine (withStory twoLines) [66, 128] [10, 67] [7, 126] ∧
      2 + 2 + 2 ≤ (withStory twoLines).room.stories[(255 : Fin 256)].limit ∧ blocksFor (2 + 2 + 2) = blocksFor 6 ∧
      (withStory twoLines).room.stories[(255 : Fin 256)].chain.length = blocksFor 6 :=
  ⟨by decide, by decide, by decide, by decide⟩

theorem witness_LineReplaceWritesLine_fewer :
    SecondLine (withStory (lastLine 63 8192)) (List.replicate 63 65) [] [] ∧
      (withStory (lastLine 63 8192)).room.stories[(255 : Fin 256)].chain.length = 2 ∧ blocksFor 2 < blocksFor 65 ∧
      (withStory (lastLine 63 8192)).room.waitList = Vector.replicate 16 false :=
  ⟨by decide, by decide, by decide, by decide⟩

set_option maxRecDepth 4000 in
theorem witness_LineReplaceWritesLine_more :
    SecondLine (withStory (lastLine 1 256)) [65] [] (List.replicate 63 66) ∧ blocksFor 3 < blocksFor (2 + 63) ∧
      2 + 63 ≤ (withStory (lastLine 1 256)).room.stories[(255 : Fin 256)].limit ∧
      (withStory (lastLine 1 256)).room.freeCount = (withStory (lastLine 1 256)).room.pool.length ∧
      (withStory (lastLine 1 256)).part.threshold + 1 ≤ (withStory (lastLine 1 256)).room.freeCount :=
  ⟨by decide, by decide, by decide, (List.length_range (n := 1024)).symm, by decide⟩

theorem witness_LineReplaceWritesLine_limits :
    SecondLine (withStory (lastLine 1 3)) [65] [] [66, 66] ∧
      (withStory (lastLine 1 3)).room.stories[(255 : Fin 256)].limit < 2 + 2 ∧
      SecondLine (on fun r => { Room.story r 255 (lastLine 1 256) with freeCount := 0 }) [65] [] (List.replicate 63 66) ∧
      0 < blocksFor (2 + 63) - blocksFor 3 := ⟨by decide, by decide, by decide, by decide⟩

/-- Story 255 held and FILED, pending at line 2 alone. -/
def heldAtLine2 : State :=
  on fun r => ((Room.story (Room.both r 2 .quiet) 255
    { filedStory with held := true, pendingSet := emptySet.set 2 true }).modPort 2 fun p =>
      { p with queue := [⟨255, .ordinary, 0⟩] })

theorem witness_StoryHoldAndUnhold :
    (Takes (withStory filedStory) ∧ (withStory filedStory).room.stories[(255 : Fin 256)].state = .filed ∧
      (withStory filedStory).room.stories[(255 : Fin 256)].held = false ∧
      (withStory filedStory).room.stories[(255 : Fin 256)].pendingSet = emptySet ∧
      (withStory settledStory).room.stories[(255 : Fin 256)].state = .settled ∧
      (withStory settledStory).part.threshold ≤ (withStory settledStory).room.freeCount) ∧
    (∀ l : Fin 16, (emptySet.set 23 true)[linePort l] = true → (withStory filedStory).room.lines[l].sender.machine = .out) ∧
    (∀ d : Fin 8, (emptySet.set 23 true)[deskPort d] = true → (withStory filedStory).room.desks[d].state = .out) ∧
    (Takes heldAtLine2 ∧ heldAtLine2.room.stories[(255 : Fin 256)].state = .filed ∧
      heldAtLine2.room.stories[(255 : Fin 256)].held = true ∧
      setMembers heldAtLine2.room.stories[(255 : Fin 256)].pendingSet = [linePort 2] ∧
      (∃ e ∈ heldAtLine2.room.ports[linePort 2].queue, e.slot = 255) ∧ (at2 heldAtLine2).sender.machine = .quiet ∧
      (at2 heldAtLine2).sender.txChar = none ∧ (at2 heldAtLine2).sender.activity = .idle ∧
      (at2 heldAtLine2).sender.halt = .none ∧ (at2 heldAtLine2).settings.startWait ≠ 0) :=
  ⟨⟨takes_of (by decide), by decide⟩, by decide, by decide, takes_of (by decide), by decide, by decide, by decide,
    ⟨⟨255, .ordinary, 0⟩, by decide, rfl⟩, by decide⟩

/-- A story filed to port 23 alone and queued there. -/
def queuedOnce : State :=
  on fun r => (Room.story r 255 { filedStory with pendingSet := emptySet.set 23 true }).modPort 23 fun p =>
    { p with queue := [⟨255, .ordinary, 0⟩] }

theorem witness_StoryCancelReleaseAndRequeue_cancel :
    (Takes (withStory settledStory) ∧ (withStory settledStory).room.stories[(255 : Fin 256)].state = .settled) ∧
    Takes queuedOnce ∧ queuedOnce.room.stories[(255 : Fin 256)].state = .filed ∧
      setMembers queuedOnce.room.stories[(255 : Fin 256)].pendingSet = [23] ∧
      (∀ x, queuedOnce.room.currentOf 23 = some x → x.slot ≠ 255) ∧ queuedOnce.room.suspendedOf 23 ≠ some 255 ∧
      queuedOnce.part.threshold ≤ queuedOnce.room.freeCount :=
  ⟨⟨takes_of (by decide), by decide⟩, takes_of (by decide), by decide, by decide,
    fun _ h => absurd h (by rw [(by decide : queuedOnce.room.currentOf 23 = none)]; exact fun e => nomatch e), by decide,
    by decide⟩

theorem witness_StoryCancelReleaseAndRequeue_release :
    Takes (withStory settledStory) ∧ (withStory settledStory).room.stories[(255 : Fin 256)].state = .settled ∧
      (withStory settledStory).room.stories[(255 : Fin 256)].held = false ∧
      (withStory settledStory).room.waitList = Vector.replicate 16 false :=
  ⟨takes_of (by decide), by decide⟩

theorem witness_StoryCancelReleaseAndRequeue_requeue :
    Takes (withStory settledStory) ∧ (withStory settledStory).room.stories[(255 : Fin 256)].state = .settled ∧
      (withStory settledStory).room.stories[(255 : Fin 256)].pendingSet[(23 : Fin 24)] = false ∧
      (∀ o, (withStory settledStory).room.stories[(255 : Fin 256)].origin = some o → o.port? ≠ some 23) ∧
      (withStory settledStory).room.load 23 < 32 ∧
      (∀ l : Fin 16, 23 = linePort l → (withStory settledStory).room.lines[l].settings.mode ≠ .receive ∧
        (withStory settledStory).room.lines[l].sender.machine = .out) ∧
      ∀ d : Fin 8, 23 = deskPort d → (withStory settledStory).room.desks[d].state = .out :=
  ⟨takes_of (by decide), by decide, by decide, fun o h => by
    rw [(by decide : (withStory settledStory).room.stories[(255 : Fin 256)].origin = some .host)] at h
    cases h
    decide, by decide, by decide, by decide⟩

theorem witness_QueueAndDuplicateStackOrder :
    ([⟨1, .flash, 0⟩, ⟨2, .urgent, 0⟩, ⟨3, .urgent, 0⟩] : List QEntry).Pairwise (fun a b => a.cls.rank ≤ b.cls.rank) ∧
      (List.replicate 15 (⟨[65, 65, 65], 1⟩ : Key)).length < 16 ∧
      (List.replicate 16 (⟨[65, 65, 65], 1⟩ : Key)).length = 16 ∧
      (⟨[65, 65, 65], 2⟩ : Key) ∉ List.replicate 16 (⟨[65, 65, 65], 1⟩ : Key) ∧
      (⟨[65, 65, 65], 1⟩ : Key) ∈ List.replicate 16 (⟨[65, 65, 65], 1⟩ : Key) := by decide

/-! ## Witnesses: searches, resets and the link -/

/-- A search of slot 7 with a hit to come, and its record. -/
def searching (last : Nat) (hits : List Hit) : State :=
  on fun r => { Room.story r 7 settledStory with
    search := some ⟨[65, 66, 67], last, 7, hits⟩
    link := { r.link with records := [⟨.search, 9⟩] } }

theorem witness_SearchRunsAndFinds_runs :
    (Takes ready ∧ isKeywordText (([65, 66] : List Nat).map upper) = false ∧ 255 < 256 ∧ (3 : Nat) < 4 ∧
      (isKeywordText (([97, 98, 99] : List Nat).map upper) = true ∧ (255 : Nat) ≤ 255) ∧ ready.room.search = none) ∧
    (Takes (searching 255 []) ∧ (searching 255 []).room.search ≠ none) ∧
    ((searching 8 []).room.search = some ⟨[65, 66, 67], 8, 7, []⟩ ∧ 7 = (7 : Fin 256).val ∧
      (searching 8 []).room.stories[(7 : Fin 256)].state = .settled ∧
      firstOccurrence [65, 66, 67] true 0 (searching 8 []).room.stories[(7 : Fin 256)].text = some 0) ∧
    ((searching 8 []).room.link.records = [⟨.search, 9⟩] ∧ (searching 8 []).room.link.replies.length < 8 ∧
      (searching 8 []).room.link.waiting = []) ∧
    (32 ≤ (List.replicate 31 (⟨7, .settled, 0⟩ : Hit) ++ [(⟨7, .settled, 0⟩ : Hit)]).length ∧ 7 < 8) ∧ (7 : Nat) ≤ 7 :=
  ⟨⟨takes_ready, by decide⟩, ⟨takes_of (by decide), by decide⟩, by decide, by decide, by decide, by decide⟩

theorem witness_SearchRunsAndFinds_finds : ([65, 66, 67] : List Nat) ≠ [] := by decide

theorem witness_ResetTrafficClears :
    Takes served ∧ served.room.link.records = [] ∧
      (∀ l : Fin 16, served.room.lines[l].sender.txChar = none ∧ served.room.lines[l].sender.stopPending = none) ∧
      served.room.lines[(15 : Fin 16)].sender.machine = .out ∧ (line2 id).room.lines[(2 : Fin 16)].sender.machine ≠ .out ∧
      delivering.room.link.records = [] ∧
      (∀ l : Fin 16, delivering.room.lines[l].sender.txChar = none ∧ delivering.room.lines[l].sender.stopPending = none) ∧
      ((at7 delivering).state ≠ .idle ∧ (at7 delivering).state ≠ .out) :=
  ⟨takes_on rfl, by decide⟩

theorem witness_ResetTrafficClears_within :
    let s := line2 fun x => { x with txChar := some (.cr, 7), machine := .ready, stopPending := some .drain }
    Takes s ∧ s.room.link.records = [] ∧
      (∀ l : Fin 16, s.room.lines[l].sender.txChar = none → s.room.lines[l].sender.stopPending = none) ∧
      (at2 s).sender.machine ≠ .out ∧ (at2 s).sender.txChar ≠ none :=
  ⟨takes_of (by decide), by decide⟩

theorem witness_ResetTrafficClears_ends :
    ((at2 blockedInCharacter).sender.txChar = some (.cr, 7) ∧ (at2 blockedInCharacter).sender.halt = .reset ∧
      (at2 blockedInCharacter).sender.stopPending = none ∧
      blockedInCharacter.room.ports[linePort 2].conditions.broken = false ∧
      (at2 blockedInCharacter).sender.identify.phase ≠ .pending) ∧
    (blockedInCharacter.room.modPort 2 fun p => { p with conditions := { p.conditions with broken := true } }).ports[
      linePort 2].conditions.broken = true ∧
    (blockedInCharacter.room.modSender 2 fun x => { x with stopPending := some .drain }).lines[
      (2 : Fin 16)].sender.stopPending ≠ none ∧
    NoWork blockedInCharacter (linePort 2) :=
  ⟨by decide, by decide, by decide, fun _ h => nomatch h⟩

theorem witness_ResetTrafficClears_marker :
    let s := line2 fun x => { x with
      machine := .sending, txChar := some (.print .letters 25, 7), activity := .marker .opn [] .afterOpen, farOpen := 1 }
    Takes s ∧ s.room.link.records = [] ∧
      (∀ l : Fin 16, s.room.lines[l].sender.txChar = none → s.room.lines[l].sender.stopPending = none) ∧
      (at2 s).sender.machine ≠ .out ∧ (at2 s).sender.txChar = some (.print .letters 25, 7) ∧
      (at2 s).sender.activity = .marker .opn [] .afterOpen :=
  ⟨takes_of (by decide), by decide⟩

/-- Six replies, the most that leave two places. -/
def sixReplies : State :=
  { searching 255 [] with room := (searching 255 []).room.modLink fun k =>
    { k with replies := List.replicate 6 (doneReply 1 .none) } }

/-- A reset that waits with its DONE. -/
def waitingReset : State :=
  on fun r => r.modLink fun k =>
    { k with replies := List.replicate 7 (doneReply 1 .none), resetting := some ⟨.full, [doneReply 2 .none]⟩ }

theorem witness_ResetFullIsTaken :
    (Takes ready ∧ ready.room.link.records = []) ∧
    (Takes sixReplies ∧ sixReplies.room.search = some ⟨[65, 66, 67], 255, 7, []⟩ ∧
      sixReplies.room.link.records = [⟨.search, 9⟩] ∧ sixReplies.room.link.replies.length ≤ 6) ∧
    (Takes (collecting 1 .figures) ∧ (at2 (collecting 1 .figures)).sender.identify.phase ≠ .none ∧
      (collecting 1 .figures).room.link.records = [⟨.line 2, 4⟩] ∧
      (collecting 1 .figures).room.link.replies.length ≤ 6) ∧
    waitingReset.room.link.resetting = some ⟨.full, [doneReply 2 .none]⟩ ∧ waitingReset.room.link.replies.length < 8 :=
  ⟨⟨takes_ready, by decide⟩, ⟨takes_of (by decide), by decide⟩, ⟨takes_of (by decide), by decide⟩, by decide⟩

theorem witness_CommandsWithNoEffect_requests :
    (requestFrame (.storyOpen 1)).isSome = true ∧ ¬ Takes State.reset ∧
      ¬ Takes (on fun r => r.modLink fun k => { k with rx := .discard }) ∧
      ¬ Takes (on fun r => r.modLink fun k => { k with replies := List.replicate 8 (doneReply 1 .none) }) :=
  ⟨by decide, (by decide : ¬ State.reset.room.link.canTake = true),
    (by decide : ¬ (on fun r => r.modLink fun k => { k with rx := .discard }).room.link.canTake = true),
    (by decide : ¬ (on fun r => r.modLink fun k =>
      { k with replies := List.replicate 8 (doneReply 1 .none) }).room.link.canTake = true)⟩

theorem witness_FramesThatAreNoRequest :
    Takes ready ∧ 24 < (25 : Octet).toNat ∧ ([0] : List Octet) ≠ [] ∧
      ((24 : Octet) ∈ ([2, 10, 13, 17, 18, 19, 20, 24] : List Octet) ∧ ([0, 0] : List Octet).length ≠ 1) ∧
      ((23 : Octet) ∈ ([3, 15, 23] : List Octet) ∧ ([0] : List Octet).length ≠ 2) ∧ 1 < (2 : Octet).toNat :=
  ⟨takes_ready, by decide⟩

/-- Clear-to-send off for want of a place in the reply queue. -/
def noPlace (rx : FrameRx) : State :=
  on fun r => r.modLink fun k => { k with replies := List.replicate 8 (doneReply 1 .none), rx := rx }

theorem witness_FramesRejected :
    Takes ready ∧ (1 : Octet).toNat < 2 ∧ 242 < (243 : Octet).toNat ∧
      (2 ≤ (2 : Octet).toNat ∧ ([11, 0, 0] : List Octet).length = (2 : Octet).toNat + 1 ∧
        ((2 : Octet).toNat + (([11, 0, 0] : List Octet).map BitVec.toNat).sum) % 256 ≠ 0) ∧
      (2 ≤ (242 : Octet).toNat ∧ (242 : Octet).toNat ≤ 242 ∧ ([11, 0] : List Octet).length ≤ (242 : Octet).toNat) ∧
      ((noPlace .hunt).room.link.ready = true ∧ (noPlace .hunt).room.link.clearToSend = false ∧
        (noPlace .hunt).room.link.rx ≠ .idle ∧ (noPlace .hunt).room.link.rx ≠ .discard ∧
        (noPlace .hunt).room.link.resetting = none) ∧
      ((noPlace .discard).room.link.rx = .discard ∧ (0 : Octet) ≠ 0xE7) ∧
      ((on fun r => r.modLink fun k => { k with rx := .discard }).room.link.clearToSend = true ∧
        (noPlace .hunt).room.link.rx = .hunt) :=
  ⟨takes_ready, by decide⟩

theorem witness_FramesBuiltAndReadBack_built : (List.replicate 240 255).length ≤ 240 := by rw [List.length_replicate]

/-- The transmitter at the end of a frame. -/
def transmitting (f : Link → Link) : State := on fun r => r.modLink fun k => f { k with txFrame := some (.part ⟨0, 0⟩) }

theorem witness_TransmitterAndWaitingReplies :
    (transmitting id).room.link.txFrame = some (.part ⟨0, 0⟩) ∧
      (transmitting fun k => { k with replies := [doneReply 1 .none] }).room.link.replies = doneReply 1 .none :: [] ∧
      ((transmitting fun k => { k with reject := some ⟨.check, 255⟩ }).room.link.replies = [] ∧
        (transmitting fun k => { k with reject := some ⟨.check, 255⟩ }).room.link.resetting = none ∧
        (transmitting fun k => { k with reject := some ⟨.check, 255⟩ }).room.link.reject = some ⟨.check, 255⟩) ∧
      ((transmitting id).room.link.reject = none ∧ (transmitting id).room.link.notices = []) ∧
      (transmitting fun k => { k with notices := [.port 23, .part] }).room.link.notices = .port 23 :: [.part] ∧
      (transmitting fun k => { k with notices := [.part] }).room.link.notices = .part :: [] ∧
      (transmitting fun k => { k with notices := [.story 255 StoryKinds.ofFiled] }).room.link.notices =
        .story 255 StoryKinds.ofFiled :: [] ∧
      (transmitting fun k => { k with resetting := some (ResetExec.mk .full []) }).room.link.resetting = some ⟨.full, []⟩ ∧
      ((transmitting fun k => { k with waiting := [(LongRecord.mk (.line 3) 4, doneReply 4 .none)] }).room.link.waiting =
          (⟨.line 3, 4⟩, doneReply 4 .none) :: [] ∧
        (transmitting fun k => { k with replies := List.replicate 7 (doneReply 1 .none) }).room.link.replies.length < 8) ∧
      (ready.room.link.txFrame = none ∧ (Frame.part ⟨0, 0⟩).bytes[0]? = some 0xE7) := by decide

theorem witness_ReplyQueueHoldsAtMostEight :
    waitingReset.room.link.replies.length ≤ 8 ∧ ∃ t, step waitingReset = .next t := ⟨by decide, ⟨_, rfl⟩⟩

theorem witness_FramesBuiltAndReadBack_read :
    wf (.storyRequeue 7 255 [0, 23]) = true ∧ requestFrame (.storyRequeue 7 255 [0, 23]) = some (21, [255, 1, 0, 128]) := by
  decide

/-- A half whose positions are as `halfLegal` asks, checked position by position. -/
theorem halfLegal_of {h : Half}
    (a : ∀ c : Fin 32, isFunctionCode c.val = true → h[c] = none)
    (b : ∀ c : Fin 32, (match h[c] with
      | some (.print v) => decide (32 ≤ v ∧ v ≤ 126)
      | _ => true) = true) : halfLegal h := by
  refine ⟨a, fun c v e => ?_⟩
  have := b c
  rw [e] at this
  exact of_decide_eq_true this

/-- The factory settings with one route, the clock at the end of its range and line 5 in HUNT with a marker begun, its
letters of both cases. -/
def legalEdge : State :=
  { ready with
    part := { oneRoute with lede := 15, threshold := 256 }, time := { ready.time with clock := ⟨86399, 255⟩ }
    room := ready.room.modAssembler 5 fun x => { x with machine := .hunt, window := [86, 118, 86] } }

theorem factoryTable_legal : halfLegal factoryTable.letters ∧ halfLegal factoryTable.figures :=
  ⟨halfLegal_of (by decide) (by decide), halfLegal_of (by decide) (by decide)⟩

theorem witness_EveryStepKeepsLegal_copies : CopiesLegal legalEdge := by
  intro l
  have a : ∀ l : Fin 16, legalEdge.room.lines[l].decoder.side.copy = factoryTable ∧
      legalEdge.room.lines[l].sender.side.copy = factoryTable ∧
      legalEdge.room.lines[l].assembler.markers = factoryMarkers := by decide
  obtain ⟨h, k, m⟩ := a l
  rw [h, k, m]
  exact ⟨factoryTable_legal.1, factoryTable_legal.2, factoryTable_legal.1, factoryTable_legal.2,
    by unfold markerLegal; decide, by decide⟩

theorem witness_EveryStepKeepsLegal_windows : WindowsLegal legalEdge := by
  unfold WindowsLegal windowLetter
  decide

theorem witness_EveryStepKeepsLegal : Legal legalEdge ∧ ∃ t, step legalEdge = .next t := by
  refine ⟨⟨fun t => ?_, by unfold markerLegal; decide, by decide, by decide, by decide, fun i k h => ?_, fun i e h => ?_, by decide,
    by decide⟩, _, rfl⟩
  · revert t
    have a : ∀ t : Fin 4, legalEdge.part.templates[t] = factoryTable := by decide
    intro t
    rw [a t]
    exact factoryTable_legal
  · rw [(by decide : ∀ i : Fin 24, legalEdge.part.keywords[i] = none) i] at h
    cases h
  · rcases eq_or_ne i 47 with rfl | hi
    · cases oneRoute_last.symm.trans h
      exact ⟨by decide, by decide⟩
    · rw [(by decide : ∀ i : Fin 48, i ≠ 47 → legalEdge.part.routes[i] = none) i hi] at h
      cases h

/-- One block in a settled story, the others free. -/
def blocksIn (pool : List Nat) : State :=
  { (on fun r => { Room.story r 9 { settledStory with chain := [1023] } with
      pool := pool, freeCount := 1023, settled := [9] }) with pending := [.clockSet 1 0 0] }

def oneBlock : State := blocksIn (List.range 1023)

theorem blocksIn_pool (pool : List Nat) : (blocksIn pool).room.pool = pool := rfl

theorem oneBlock_chains : (allSlots.map fun i => oneBlock.room.stories[i].chain).flatten = [1023] := by decide +kernel

theorem witness_EveryStepKeepsTheStore : StoreLegal oneBlock ∧ ∃ t, step oneBlock = .next t := by
  refine ⟨⟨List.Perm.of_eq ?_, by decide +kernel, by decide +kernel, by decide +kernel, by decide +kernel,
    by decide +kernel, by decide +kernel⟩, _, rfl⟩
  rw [oneBlock_chains, oneBlock, blocksIn_pool]
  exact (List.range_succ (n := 1023)).symm

/-- The same with story 10 FILED and in port 23's queue. -/
def queuedIn (pool : List Nat) : State :=
  { blocksIn pool with room := (Room.story (blocksIn pool).room 10
      { filedStory with text := [], chain := [], pendingSet := emptySet.set 23 true }).modPort 23 fun p =>
        { p with queue := [⟨10, .urgent, 0⟩] } }

def oneQueued : State := queuedIn (List.range 1023)

theorem queuedIn_pool (pool : List Nat) : (queuedIn pool).room.pool = pool := rfl

theorem oneQueued_chains : (allSlots.map fun i => oneQueued.room.stories[i].chain).flatten = [1023] := by decide +kernel

theorem oneQueued_sets (i : Fin 256) (h : i ≠ 10) :
    oneQueued.room.stories[i].pendingSet = emptySet ∧ oneQueued.room.stories[i].doneSet = emptySet ∧
      oneQueued.room.stories[i].missedSet = emptySet := by
  revert i
  decide +kernel

theorem witness_EveryStepKeepsDeliveries :
    StoreLegal oneQueued ∧ DeliveriesLegal oneQueued ∧ ∃ t, step oneQueued = .next t := by
  refine ⟨⟨List.Perm.of_eq ?_, by decide +kernel, by decide +kernel, by decide +kernel, by decide +kernel,
    by decide +kernel, by decide +kernel⟩, ⟨by decide +kernel, fun i p => ?_, by decide⟩, _, rfl⟩
  · rw [oneQueued_chains, oneQueued, queuedIn_pool]
    exact (List.range_succ (n := 1023)).symm
  · rcases eq_or_ne i 10 with rfl | hi
    · revert p
      decide +kernel
    · obtain ⟨a, b, c⟩ := oneQueued_sets i hi
      have e : (emptySet : PortSet)[p] = false := by
        revert p
        decide
      exact ⟨fun h => absurd (a ▸ h) (by rw [e]; decide), fun h => absurd h (by rw [b, c, e]; decide),
        fun h => absurd (b ▸ h) (by rw [e]; decide), fun _ _ => by rw [a, b, c]; exact ⟨e, e, e⟩⟩

/-- Port 23 with the load of 32, its entries of two classes. -/
def fullQueue : State :=
  { (on fun r => r.modPort 23 fun p =>
      { p with queue := ⟨9, .flash, 0⟩ :: List.replicate 31 ⟨10, .deferred, 0⟩ }) with pending := [.storyOpen 1] }

theorem witness_EveryStepKeepsTheQueues : QueuesLegal fullQueue ∧ ∃ t, step fullQueue = .next t :=
  ⟨by unfold QueuesLegal; decide +kernel, _, rfl⟩

/-- Three subjects on the notice list and every counter of port 23 at its limit. -/
def noticesEdge : State :=
  { (on fun r => (r.modLink fun k => { k with notices := [.story 255 StoryKinds.ofFiled, .port 0, .part] }).modPort 23
      fun p => { p with counters := ⟨65535, 65535, 65535, 65535, 65535, 65535⟩ }) with
    pending := [.deskCharacterReceived 7 65 .space] }

theorem witness_EveryStepKeepsNoticesAndCounters :
    (NoticesLegal noticesEdge ∧ CountersLegal noticesEdge) ∧ ∃ t, step noticesEdge = .next t :=
  ⟨⟨by unfold NoticesLegal; decide, by unfold CountersLegal countersLegal; decide⟩, _, rfl⟩

/-! ## Witnesses: lines -/

/-- Line 5 in service in mode RECEIVE, changed. -/
def receiving (f : Line → Line) : State :=
  on fun r => (Room.serve (Room.story r 9 { hostStory with origin := some (.line 5) }) 5).modLine 5 fun x =>
    f { x with receiver := { x.receiver with state := .waiting }, assembler := { x.assembler with machine := .hunt } }

/-- Its receiver changed. -/
def receiver (f : Receiver → Receiver) : State := receiving fun x => { x with receiver := f x.receiver }

/-- A character being framed, with the assembler changed. -/
def framing (f : Assembler → Assembler) : State :=
  receiving fun x => { x with receiver := { x.receiver with state := .framing }, assembler := f x.assembler }

theorem witness_PinEventsAndFunctionCodes_pin :
    ready.room.lines[(5 : Fin 16)].receiver.state = .off ∧
      (receiver id).room.lines[(5 : Fin 16)].receiver.state = .waiting ∧
      (framing id).room.lines[(5 : Fin 16)].receiver.state = .framing ∧
      (receiver fun x => { x with state := .broken }).room.lines[(5 : Fin 16)].receiver.state = .broken := by decide

/-- A character being framed within story 9. -/
def inStory : State := framing fun x => { x with machine := .story, current := some 9 }

theorem witness_PinEventsAndFunctionCodes_codes :
    ((framing id).room.lines[(5 : Fin 16)].receiver.state = .framing ∧
      (framing id).room.lines[(5 : Fin 16)].sender.identify.collecting = false) ∧
    ((at5 (framing id)).decoder.inLine = false ∧ (at5 (framing id)).decoder.blankLines < 2 ∧
      (at5 (framing id)).assembler.window = [] ∧ (at5 (framing id)).assembler.machine = .hunt ∧
      (at5 (framing id)).sender.identify.phase ≠ .awaiting) ∧
    2 ≤ ({ (at5 (framing id)).decoder with blankLines := 2 } : Decoder).blankLines ∧
    ((at5 inStory).assembler.window = [] ∧ (at5 inStory).assembler.machine = .story ∧
      (at5 inStory).assembler.current = some 9 ∧ (at5 inStory).assembler.skip = false ∧
      (at5 inStory).assembler.fifo = [] ∧ inStory.room.waitList[(5 : Fin 16)] = false ∧ (slot9 inStory).text ≠ [] ∧
      (slot9 inStory).text.length < 64 * (slot9 inStory).chain.length ∧
      (slot9 inStory).text.length < (at5 inStory).settings.maxLength) ∧
    ((at5 (framing id)).assembler.skip = false ∧
      (∀ m ∈ activeMarkers .hunt (at5 (framing id)).assembler.suspended.isSome,
        ((at5 (framing id)).assembler.markers.letters m).head? ≠ some 32) ∧
      ∀ m ∈ (framing id).part.markers.list, m.head? ≠ some 32) := by decide

theorem witness_CellsReceived :
    (inStory.room.lines[(5 : Fin 16)].receiver.state = .framing ∧
      inStory.room.lines[(5 : Fin 16)].sender.identify.collecting = false ∧
      inStory.room.lines[(5 : Fin 16)].decoder.returnSeen = false ∧
      inStory.room.lines[(5 : Fin 16)].assembler.window = [] ∧
      inStory.room.lines[(5 : Fin 16)].assembler.skip = false ∧ isFunctionCode (1 : Fin 32).val = false) ∧
    ((inStory.room.lines[(5 : Fin 16)].decoder.side.copy.half .letters)[(1 : Fin 32)] = some (.print 65) ∧
      (inStory.room.lines[(5 : Fin 16)].decoder.side.copy.half .figures)[(30 : Fin 32)] = some .nothing ∧
      (inStory.room.lines[(5 : Fin 16)].decoder.side.copy.half .figures)[(26 : Fin 32)] = some .bell ∧
      (31 : Fin 32) ≠ 0) ∧
    (∀ m ∈ activeMarkers inStory.room.lines[(5 : Fin 16)].assembler.machine
        inStory.room.lines[(5 : Fin 16)].assembler.suspended.isSome,
      (inStory.room.lines[(5 : Fin 16)].assembler.markers.letters m).head? ≠ some (upper 65)) ∧
    (inStory.room.lines[(5 : Fin 16)].assembler.machine = .story ∧
      inStory.room.lines[(5 : Fin 16)].assembler.current = some 9 ∧
      inStory.room.lines[(5 : Fin 16)].assembler.fifo = [] ∧ inStory.room.waitList[(5 : Fin 16)] = false ∧
      inStory.room.stories[(9 : Fin 256)].text.length < 64 * inStory.room.stories[(9 : Fin 256)].chain.length ∧
      inStory.room.stories[(9 : Fin 256)].text.length < inStory.room.lines[(5 : Fin 16)].settings.maxLength) ∧
    ((framing id).room.lines[(5 : Fin 16)].assembler.machine = .hunt ∧
      (framing id).room.lines[(5 : Fin 16)].sender.identify.phase ≠ .awaiting ∧
      ∀ m ∈ activeMarkers (framing id).room.lines[(5 : Fin 16)].assembler.machine
          (framing id).room.lines[(5 : Fin 16)].assembler.suspended.isSome,
        ((framing id).room.lines[(5 : Fin 16)].assembler.markers.letters m).head? ≠ some (upper 128)) := by decide

/-- A marker's letters but the last in the window of line 5, with the assembler in a state. -/
def marking (window : List Nat) (f : Assembler → Assembler) : State := framing fun x => f { x with window := window }

/-- The last letter of an active marker arrives. -/
abbrev MarkerEnds (code : Fin 32) (c : Cell) (m : Marker) (s : State) : Prop :=
  (at5 s).receiver.state = .framing ∧ isFunctionCode code.val = false ∧ (at5 s).sender.identify.phase = .none ∧
    (at5 s).decoder.returnSeen = false ∧
    ((at5 s).decoder.side.copy.half (at5 s).decoder.case)[code] = some (.print c) ∧ 32 ≤ c ∧ c ≤ 126 ∧
    (at5 s).assembler.skip = false ∧
    (∀ y ∈ (at5 s).assembler.window, y ≠ 10) ∧
    m ∈ activeMarkers (at5 s).assembler.machine (at5 s).assembler.suspended.isSome ∧
    ((at5 s).assembler.window ++ [c]).map upper = (at5 s).assembler.markers.letters m ∧
    ∀ n ∈ activeMarkers (at5 s).assembler.machine (at5 s).assembler.suspended.isSome,
      n ≠ m → (at5 s).assembler.markers.letters n ≠ (at5 s).assembler.markers.letters m

/-- In STORY with story 9 current, and in HUNT with story 9 suspended. -/
def current9 (window : List Nat) : State := marking window fun x => { x with machine := .story, current := some 9 }

def suspended9 (window : List Nat) : State := marking window fun x => { x with suspended := some 9 }

/-- Line 5's story, empty. -/
def emptyNine : Story := { emptyStory with origin := some (.line 5) }

theorem witness_MarkersTakeEffect_open :
    (MarkerEnds 25 86 .opn (marking [86, 86, 86] id) ∧ (at5 (marking [86, 86, 86] id)).assembler.machine = .hunt ∧
      (at5 (marking [86, 86, 86] id)).assembler.current = none ∧
      (marking [86, 86, 86] id).room.stories[(0 : Fin 256)].state = .free ∧
      (marking [86, 86, 86] id).room.stories[(0 : Fin 256)].noticePending = false) ∧
    (∀ j : Fin 256, fullDirectory.room.stories[j].state ≠ .free ∨ fullDirectory.room.stories[j].noticePending = true) ∧
    (MarkerEnds 25 86 .opn (nine emptyNine (current9 [86, 86, 86])) ∧
      (at5 (current9 [86, 86, 86])).assembler.machine = .story ∧
      (at5 (current9 [86, 86, 86])).assembler.current = some 9 ∧ (at5 (current9 [86, 86, 86])).assembler.fifo = [] ∧
      (current9 [86, 86, 86]).room.waitList[(5 : Fin 16)] = false ∧
      (current9 [86, 86, 86]).room.ports[linePort 5].conditions.waiting = false ∧
      (slot9 (nine emptyNine (current9 [86, 86, 86]))).state = .assembling ∧
      (nine emptyNine (current9 [86, 86, 86])).room.stories[(0 : Fin 256)].state = .free) := by decide +kernel

theorem witness_MarkersTakeEffect_close :
    countersLegal (current9 [88, 88, 88]).room.ports[linePort 5].counters ∧
    (MarkerEnds 28 88 .cls (current9 [88, 88, 88]) ∧ (at5 (current9 [88, 88, 88])).assembler.fifo = [] ∧
      (slot9 (current9 [88, 88, 88])).text ≠ [] ∧ (slot9 (current9 [88, 88, 88])).text.getLast? ≠ some 10 ∧
      (slot9 (current9 [88, 88, 88])).text.length < 64 * (slot9 (current9 [88, 88, 88])).chain.length ∧
      (slot9 (current9 [88, 88, 88])).text.length < (at5 (current9 [88, 88, 88])).settings.maxLength ∧
      parseHeader ((slot9 (current9 [88, 88, 88])).text ++ [10]) = none ∧
      (slot9 (current9 [88, 88, 88])).keywords = emptySet ∧
      (current9 [88, 88, 88]).part.keywords = Vector.replicate 24 none ∧
      (current9 [88, 88, 88]).part.defaultSet = emptySet ∧
      (slot9 (current9 [88, 88, 88])).origin = some (.line 5) ∧
      (slot9 (current9 [88, 88, 88])).pendingSet = emptySet ∧
      (current9 [88, 88, 88]).part.threshold ≤ (current9 [88, 88, 88]).room.freeCount) ∧
    (MarkerEnds 28 88 .cls (nine emptyNine (current9 [88, 88, 88])) ∧
      (slot9 (nine emptyNine (current9 [88, 88, 88]))).chain = []) :=
  ⟨by unfold countersLegal; decide, by decide +kernel, by decide +kernel⟩

/-- Line 5 at the end of its CLOSE marker in a headed story, the line testing for duplicates and the key held. -/
def repeated : State :=
  let s := nine { headedStory with origin := some (.line 5) } (current9 [88, 88, 88])
  { s with room := { s.room.modLine 5 fun x => { x with settings := { x.settings with dedupe := true } } with
    stack := [⟨[71, 76, 78], 4⟩] } }

/-- A default set of a line and a desk, and line 5's story with it. -/
def toTwo (s : State) : State := { s with part := { s.part with defaultSet := (emptySet.set 23 true).set 0 true } }

def routed (window : List Nat) : State := toTwo (current9 window)

/-- An UNHEADED story is no duplicate. -/
theorem notDuplicate_of {s : State} {l : Fin 16} {text : List Cell} (e : parseHeader text = none) : NotDuplicate s l text :=
  .inr fun _ k => nomatch e ▸ k

theorem witness_StoryCloseHandsOn_line :
    (MarkerEnds 28 88 .cls (routed [88, 88, 88]) ∧ MarkerEnds 25 86 .opn (routed [86, 86, 86]) ∧
      (slot9 (routed [88, 88, 88])).overruns ≤ 65535 ∧ (slot9 (routed [88, 88, 88])).text.getLast? ≠ some 10 ∧
      (slot9 (routed [88, 88, 88])).text.length < (at5 (routed [88, 88, 88])).settings.maxLength ∧
      (routed [88, 88, 88]).room.ports[linePort 5].conditions.waiting = false ∧
      (routed [86, 86, 86]).room.ports[linePort 5].conditions.directoryFull = false ∧
      (slot9 (routed [86, 86, 86])).state = .assembling ∧
      (routed [86, 86, 86]).room.stories[(0 : Fin 256)].state = .free ∧
      (routed [86, 86, 86]).room.stories[(0 : Fin 256)].noticePending = false) ∧
    (PlainStory (routed [88, 88, 88]) 5 9 ∧ PlainStory (routed [86, 86, 86]) 5 9 ∧ PlainStory repeated 5 9) ∧
    (AllOut (routed [88, 88, 88]) (((routed [88, 88, 88]).part.route none).set (linePort 5) false) ∧
      AllOut (routed [86, 86, 86]) (((routed [86, 86, 86]).part.route none).set (linePort 5) false)) ∧
    (NotDuplicate (routed [88, 88, 88]) 5 [65, 66, 67, 10] ∧ NotDuplicate (routed [86, 86, 86]) 5 [65, 66, 67]) ∧
    (MarkerEnds 28 88 .cls repeated ∧ (at5 repeated).settings.dedupe = true ∧
      parseHeader ((slot9 repeated).text ++ [10]) = some ⟨[71, 76, 78], 4, .urgent, [69, 67], none, none⟩ ∧
      (⟨[71, 76, 78], 4⟩ : Key) ∈ repeated.room.stack ∧ repeated.room.waitList = Vector.replicate 16 false) :=
  ⟨by decide +kernel, by unfold PlainStory; decide +kernel, by unfold AllOut; decide +kernel,
    ⟨notDuplicate_of (by decide), notDuplicate_of (by decide)⟩, by decide +kernel⟩

/-- A letter arrives with letters in the window, some of them released and the rest held. -/
abbrev Releases (code : Fin 32) (c : Cell) (out keep : List Cell) (s : State) : Prop :=
  let active := activeMarkers (at5 s).assembler.machine (at5 s).assembler.suspended.isSome
  (at5 s).receiver.state = .framing ∧ isFunctionCode code.val = false ∧ (at5 s).sender.identify.phase = .none ∧
    (at5 s).decoder.returnSeen = false ∧
    ((at5 s).decoder.side.copy.half (at5 s).decoder.case)[code] = some (.print c) ∧ 32 ≤ c ∧ c ≤ 126 ∧
    (at5 s).assembler.skip = false ∧ (∀ y ∈ (at5 s).assembler.window, windowLetter y) ∧
    (at5 s).assembler.window ++ [c] = out ++ keep ∧
    (∀ n : Nat, n < out.length → ∀ m ∈ active,
      ¬ (((at5 s).assembler.window ++ [c]).drop n).map upper <+: (at5 s).assembler.markers.letters m) ∧
    (∀ m ∈ active, keep.map upper ≠ (at5 s).assembler.markers.letters m) ∧
    (keep = [] ∨ ∃ m ∈ active, keep.map upper <+: (at5 s).assembler.markers.letters m)

/-- Line 5 with its story 9 at the maximum length. -/
def atMaximum : State :=
  let s := routed []
  { s with room := s.room.modLine 5 fun x => { x with settings := { x.settings with maxLength := 3 } } }

theorem witness_CellsReceived_matcher :
    countersLegal (marking [86] id).room.ports[linePort 5].counters ∧
    (Releases 25 86 [] [86, 86] (marking [86] id) ∧ Releases 1 65 [86, 86, 65] [] (marking [86, 86] id) ∧
      (at5 (marking [86] id)).assembler.machine = .hunt) ∧
    (Releases 1 65 [86, 86, 65] [] (current9 [86, 86]) ∧ Releases 25 86 [88] [86] (current9 [88]) ∧
      (at5 (current9 [86, 86])).assembler.current = some 9 ∧ (at5 (current9 [86, 86])).assembler.fifo = [] ∧
      (current9 [86, 86]).part.keywords = Vector.replicate 24 none ∧
      (slot9 (current9 [86, 86])).text.length + 3 ≤ 64 * (slot9 (current9 [86, 86])).chain.length ∧
      (slot9 (current9 [86, 86])).text.length + 3 ≤ (at5 (current9 [86, 86])).settings.maxLength) ∧
    (Releases 1 65 [65] [] atMaximum ∧
      (∀ m ∈ activeMarkers .story false, ((at5 atMaximum).assembler.markers.letters m).head? ≠ some (upper 65)) ∧
      (at5 atMaximum).settings.maxLength ≤ (slot9 atMaximum).text.length ∧ (slot9 atMaximum).text ≠ []) ∧
    NotDuplicate atMaximum 5 (slot9 atMaximum).text ∧ PlainStory atMaximum 5 9 ∧ AllOut atMaximum ((atMaximum.part.route none).set (linePort 5) false) :=
  ⟨by unfold countersLegal; decide, by unfold Releases windowLetter; decide, by unfold Releases windowLetter; decide,
    by unfold Releases windowLetter; decide, notDuplicate_of (by decide), by unfold PlainStory; decide +kernel,
    by unfold AllOut; decide +kernel⟩

theorem witness_MarkersTakeEffect_break : MarkerEnds 14 75 .brk (current9 [66, 75, 66]) := by decide +kernel

theorem witness_MarkersTakeEffect_resume :
    MarkerEnds 22 83 .res (suspended9 [82, 83, 82]) ∧ (at5 (suspended9 [82, 83, 82])).assembler.fifo = [] ∧
      (slot9 (suspended9 [82, 83, 82])).text.getLast? ≠ some 10 ∧
      (slot9 (nine emptyNine (suspended9 [82, 83, 82]))).text = [] := by decide +kernel

theorem witness_MarkersTakeEffect_void :
    MarkerEnds 6 68 .vd (current9 [86, 68, 86]) ∧ (suspended9 [86, 68, 86]).room.waitList = Vector.replicate 16 false := by
  decide +kernel

theorem witness_MarkersTakeEffect_void_suspended : MarkerEnds 6 68 .vd (suspended9 [86, 68, 86]) := by decide +kernel

/-- The room with line 5's story 9 at the end of its chain, and with the port waiting. -/
def chainEnd (n : Nat) : Room :=
  { (nine emptyNine (current9 [])).room with pool := List.range n, freeCount := n }

def waits (fifo : List Cell) : Room :=
  let r := (nine emptyNine (current9 [])).room
  { r.modLine 5 fun x => { x with assembler := { x.assembler with fifo := fifo } } with
    waitList := r.waitList.set 5 true }

/-- A story to release while line 5 waits. -/
def grants : State := on fun _ => Room.story (waits [65, 10]) 7 { settledStory with chain := [2, 3] }

theorem witness_HoldingFifoAndGrants :
    (65 : Nat) ≠ 10 ∧ ready.ctx.part.keywords = Vector.replicate 24 none ∧
    ((chainEnd 65).waitList[(5 : Fin 16)] = false ∧
      64 * (chainEnd 65).stories[(9 : Fin 256)].chain.length ≤ (chainEnd 65).stories[(9 : Fin 256)].text.length ∧
      (chainEnd 65).freeCount = (chainEnd 65).pool.length ∧ ready.ctx.part.threshold < (chainEnd 65).freeCount) ∧
    (chainEnd 0).freeCount = 0 ∧
    ((waits (List.replicate 7 65)).waitList[(5 : Fin 16)] = true ∧
      (waits (List.replicate 7 65)).lines[(5 : Fin 16)].assembler.fifo.length < 8) ∧
    8 ≤ (waits (List.replicate 8 65)).lines[(5 : Fin 16)].assembler.fifo.length ∧
    (ready.ctx.part.threshold ≤ (waits [65]).freeCount ∧ (∀ j : Fin 16, j < 5 → (waits [65]).waitList[j] = false) ∧
      (waits [65]).lines[(5 : Fin 16)].assembler.current = some 9) ∧
    ready.ctx.part.threshold ≤ ready.room.freeCount ∧ ready.room.waitList = Vector.replicate 16 false ∧
    (Takes grants ∧ grants.room.stories[(7 : Fin 256)].state = .settled ∧
      grants.room.stories[(7 : Fin 256)].held = false ∧ grants.room.stories[(7 : Fin 256)].chain = 2 :: [3] ∧
      grants.room.waitList = (Vector.replicate 16 false).set (5 : Fin 16) true ∧
      (at5 grants).assembler.current = some 9 ∧ (9 : Fin 256) ≠ 7 ∧
      grants.part.threshold ≤ grants.room.freeCount) :=
  ⟨by decide, by decide, by decide +kernel, by decide, by decide +kernel, by decide +kernel, by decide +kernel, by decide,
    by decide, takes_of (by decide), by decide +kernel⟩

/-- The inactivity timer running. -/
def quietLine (f : Assembler → Assembler) : State :=
  { receiving (fun x => { x with assembler := f { x.assembler with timer := some 40 } }) with
    time := { State.reset.time with ticks := 6000040 } }

/-- The timer running in an empty story 8. -/
def quietStory : State :=
  { quietLine fun x => { x with machine := .story, current := some 8 } with
    room := Room.story (quietLine fun x => { x with machine := .story, current := some 8 }).room 8 emptyStory }

theorem witness_InactivityExpires :
    countersLegal (quietLine id).room.ports[linePort 5].counters ∧
    countersLegal quietStory.room.ports[linePort 5].counters ∧
    ((quietLine fun x => { x with window := [86, 86] }).room.lines[(5 : Fin 16)].assembler.timer = some 40 ∧
      (quietLine fun x => { x with window := [86, 86] }).room.lines[(5 : Fin 16)].assembler.machine = .hunt ∧
      (quietLine id).room.lines[(5 : Fin 16)].assembler.suspended = none ∧ (∀ c ∈ ([86, 86] : List Nat), c ≠ 10) ∧
      (quietLine id).room.lines[(5 : Fin 16)].sender.identify.phase ≠ .awaiting) ∧
    (quietStory.room.lines[(5 : Fin 16)].assembler.timer = some 40 ∧
      quietStory.room.lines[(5 : Fin 16)].sender.identify.phase ≠ .awaiting ∧
      quietStory.room.lines[(5 : Fin 16)].assembler.machine = .story ∧
      quietStory.room.lines[(5 : Fin 16)].assembler.current = some 8 ∧
      quietStory.room.lines[(5 : Fin 16)].assembler.window = [] ∧
      quietStory.room.lines[(5 : Fin 16)].assembler.fifo = [] ∧ quietStory.room.waitList[(5 : Fin 16)] = false ∧
      quietStory.room.ports[linePort 5].conditions.waiting = false ∧
      quietStory.room.stories[(8 : Fin 256)].text = [] ∧ quietStory.room.stories[(8 : Fin 256)].chain = []) :=
  ⟨by unfold countersLegal; decide, by unfold countersLegal; decide, by decide⟩

/-- Line 5 in story 9 with story 10 suspended, both bound for a line and a desk, two letters held and both timers
running. -/
def twoHeld (f : Assembler → Assembler) : State :=
  let s := toTwo (receiving fun x => { x with
    receiver := { x.receiver with space := some 7 }
    assembler := f { x.assembler with
      machine := .story, window := [86, 86], current := some 9, suspended := some 10, timer := some 40 } })
  { s with room := Room.story s.room 10 { hostStory with origin := some (.line 5), chain := [1] } }

/-- An UNHEADED story of line 5 whose ports are OUT closes plainly. -/
theorem closesPlainly_of {s : State} {i : Fin 256} {text : List Cell} (a : text ≠ []) (b : PlainStory s 5 i)
    (c : parseHeader text = none) (d : AllOut s ((s.part.route none).set (linePort 5) false)) :
    ClosesPlainly s 5 i text := ⟨a, b, notDuplicate_of c, c ▸ d⟩

theorem twoHeld_current : ReleasesTo (twoHeld id) 5 9 ∧ ClosesPlainly (twoHeld id) 5 9 [65, 66, 67, 86, 86] :=
  ⟨by unfold ReleasesTo windowLetter; decide +kernel, closesPlainly_of (by decide) (by unfold PlainStory; decide +kernel)
    (by decide) (by unfold AllOut; decide +kernel)⟩

theorem twoHeld_suspended : ClosesPlainly (twoHeld id) 5 10 [65, 66, 67] :=
  closesPlainly_of (by decide) (by unfold PlainStory; decide +kernel) (by decide) (by unfold AllOut; decide +kernel)

theorem witness_InactivityExpires_text :
    countersLegal (twoHeld id).room.ports[linePort 5].counters ∧ (at5 (twoHeld id)).assembler.timer = some 40 ∧
      (at5 (twoHeld id)).sender.identify.phase ≠ .awaiting ∧ (at5 (twoHeld id)).assembler.machine = .story ∧
      (at5 (twoHeld id)).assembler.current = some 9 ∧ ReleasesTo (twoHeld id) 5 9 ∧
      ClosesPlainly (twoHeld id) 5 9 ((slot9 (twoHeld id)).text ++ (at5 (twoHeld id)).assembler.window) :=
  ⟨by unfold countersLegal; decide, by decide, by decide, by decide, by decide, twoHeld_current⟩

/-- Line 5 in HUNT with a letter held and a story suspended. -/
def huntHeld (i : Fin 256) : State := twoHeld fun x => { x with machine := .hunt, current := none, suspended := some i, window := [86] }

theorem witness_InactivityExpires_suspended :
    countersLegal (huntHeld 10).room.ports[linePort 5].counters ∧
    ((at5 (huntHeld 10)).assembler.machine = .hunt ∧ (at5 (huntHeld 10)).assembler.suspended = some 10 ∧
      (at5 (huntHeld 10)).assembler.timer = some 40 ∧ (at5 (huntHeld 10)).sender.identify.phase ≠ .awaiting ∧
      ∀ c ∈ (at5 (huntHeld 10)).assembler.window, c ≠ 10) ∧
    ClosesPlainly (huntHeld 10) 5 10 [65, 66, 67] ∧ (huntHeld 10).room.stories[(10 : Fin 256)].text = [65, 66, 67] ∧
    (slot9 (nine emptyNine (huntHeld 9))).text = [] ∧ (slot9 (nine emptyNine (huntHeld 9))).chain = [] ∧
    (at5 (nine emptyNine (huntHeld 9))).assembler.suspended = some 9 :=
  ⟨by unfold countersLegal; decide, by decide,
    closesPlainly_of (by decide) (by unfold PlainStory; decide +kernel) (by decide) (by unfold AllOut; decide +kernel),
    by decide⟩

/-- Continuous space, or continuous mark on a broken line. -/
def spaced (f : Line → Line) : State :=
  receiving fun x => f { x with receiver := { x.receiver with space := some 7 } }

def marked (f : Line → Line) : State :=
  receiving fun x => f { x with receiver := { x.receiver with state := .broken, mark := some 7 } }

/-- A line in mode BOTH with its sender in a state. -/
def bothWays (m : SendMachine) (x : Line) : Line :=
  { x with settings := { x.settings with mode := .both }, sender := { x.sender with machine := m } }

theorem witness_BreakAndRestore :
    ((spaced id).room.lines[(5 : Fin 16)].assembler.window = [] ∧
      (spaced id).room.lines[(5 : Fin 16)].assembler.current = none ∧
      (spaced id).room.lines[(5 : Fin 16)].assembler.suspended = none ∧
      (spaced id).room.lines[(5 : Fin 16)].receiver.state = .waiting ∧
      (spaced id).room.lines[(5 : Fin 16)].receiver.space = some 7 ∧
      (spaced id).room.lines[(5 : Fin 16)].assembler.machine = .hunt ∧
      (spaced id).room.lines[(5 : Fin 16)].settings.mode = .receive) ∧
    ((spaced (bothWays .quiet)).room.lines[(5 : Fin 16)].settings.mode = .both ∧
      (spaced (bothWays .quiet)).room.lines[(5 : Fin 16)].sender.machine = .quiet ∧
      (spaced (bothWays .quiet)).room.lines[(5 : Fin 16)].sender.txChar = none ∧
      (spaced (bothWays .quiet)).room.lines[(5 : Fin 16)].sender.identify.phase = .none ∧
      (spaced (bothWays .quiet)).room.lines[(5 : Fin 16)].sender.current = none ∧
      (spaced (bothWays .quiet)).room.lines[(5 : Fin 16)].sender.suspension = .empty ∧
      (spaced (bothWays .quiet)).room.lines[(5 : Fin 16)].sender.stopPending = none ∧
      (spaced (bothWays .quiet)).room.lines[(5 : Fin 16)].receiver.space = some 7) ∧
    ((marked id).room.lines[(5 : Fin 16)].receiver.state = .broken ∧
      (marked id).room.lines[(5 : Fin 16)].receiver.mark = some 7 ∧
      (marked id).room.lines[(5 : Fin 16)].settings.mode = .receive) ∧
    ((marked (bothWays .blocked)).room.lines[(5 : Fin 16)].receiver.mark = some 7 ∧
      (marked (bothWays .blocked)).room.lines[(5 : Fin 16)].settings.mode = .both ∧
      (marked (bothWays .blocked)).room.lines[(5 : Fin 16)].sender.machine = .blocked ∧
      (marked (bothWays .blocked)).room.lines[(5 : Fin 16)].sender.txChar = none ∧
      (marked (bothWays .blocked)).room.ports[linePort 5].conditions.unidentified = false ∧
      (marked (bothWays .blocked)).room.lines[(5 : Fin 16)].sender.identify.phase = .none ∧
      ∀ e ∈ (marked (bothWays .blocked)).room.ports[linePort 5].queue,
        (marked (bothWays .blocked)).room.stories[e.slot].held = true) := by decide

/-- A current and a suspended story, two letters held, close TRUNCATED plainly. -/
theorem twoHeld_truncates : TruncatesPlainly (twoHeld id) 5 := by
  have a : (at5 (twoHeld id)).assembler.current = some 9 := by decide
  have b : (at5 (twoHeld id)).assembler.suspended = some 10 := by decide
  refine ⟨by unfold countersLegal; decide, .inl (by decide), fun i h => ?_, fun j h => ?_, fun i j h k => ?_⟩
  · cases a.symm.trans h
    exact twoHeld_current
  · cases b.symm.trans h
    exact twoHeld_suspended
  · cases a.symm.trans h
    cases b.symm.trans k
    exact ⟨by decide, fun _ _ _ e => nomatch
      (by decide : parseHeader ((slot9 (twoHeld id)).text ++ (at5 (twoHeld id)).assembler.window) = none).symm.trans e⟩

theorem witness_BreakAndRestore_truncates :
    (at5 (twoHeld id)).receiver.state = .waiting ∧ (at5 (twoHeld id)).receiver.space = some 7 ∧
      TruncatesPlainly (twoHeld id) 5 ∧ (at5 (twoHeld id)).settings.mode = .receive :=
  ⟨by decide, by decide, twoHeld_truncates, by decide⟩

theorem witness_PortStop_truncates :
    Takes (twoHeld id) ∧ (twoHeld id).room.ports[linePort 5].inService = true ∧ TruncatesPlainly (twoHeld id) 5 ∧
      (at5 (twoHeld id)).sender.identify.phase = .none ∧ (at5 (twoHeld id)).sender.machine ≠ .identifying ∧
      (at5 (twoHeld id)).sender.txChar = none :=
  ⟨takes_of (by decide), by decide, twoHeld_truncates, by decide⟩

/-- Line 2 with two stories in its queue, the first of them held. -/
def queued (f : Sender → Sender) : State :=
  { line2 f with room := ((Room.story (Room.story (line2 f).room 9 { filedStory with held := true }) 10 filedStory).modPort
    2 fun p => { p with queue := [⟨9, .urgent, 0⟩, ⟨10, .ordinary, 0⟩] }) }

theorem witness_MotorTimersExpire :
    ((line2 fun x => { x with machine := .starting, startTimer := some 7 }).room.lines[
        (2 : Fin 16)].sender.identify.phase ≠ .pending ∧
      (line2 fun x => { x with machine := .starting, startTimer := some 7 }).room.lines[
        (2 : Fin 16)].sender.machine = .starting ∧
      (line2 fun x => { x with machine := .starting, startTimer := some 7 }).room.lines[
        (2 : Fin 16)].sender.startTimer = some 7 ∧
      (line2 fun x => { x with machine := .starting, startTimer := some 7 }).room.lines[
        (2 : Fin 16)].sender.answerPending = false ∧
      (line2 id).room.lines[(2 : Fin 16)].settings.identifyBefore = false ∧
      ∀ e ∈ (line2 id).room.ports[linePort 2].queue, (line2 id).room.stories[e.slot].held = true) ∧
    ((queued fun x => { x with machine := .starting, startTimer := some 7, column := 5 }).room.lines[
        (2 : Fin 16)].sender.startTimer = some 7 ∧
      (queued id).room.ports[linePort 2].queue = [⟨9, .urgent, 0⟩] ++ ⟨10, .ordinary, 0⟩ :: [] ∧
      (∀ y ∈ ([⟨9, .urgent, 0⟩] : List QEntry), (queued id).room.stories[y.slot].held = true) ∧
      (queued id).room.stories[(10 : Fin 256)].held = false ∧
      (queued fun x => { x with column := 5 }).room.lines[(2 : Fin 16)].sender.column ≠ 0) ∧
    ((line2 fun x => { x with machine := .ready, idleTimer := some 7 }).room.lines[(2 : Fin 16)].sender.machine = .ready ∧
      (line2 fun x => { x with machine := .ready, idleTimer := some 7 }).room.lines[
        (2 : Fin 16)].sender.idleTimer = some 7) := by decide

/-- Line 2 with a carriage return in progress, changed. -/
def mid (f : Sender → Sender) : State := line2 fun x => f { x with txChar := some (.cr, 7), machine := .ready }

theorem witness_CharacterEndGoesOn :
    ((mid fun x => { x with codes := [.lf, .space] }).room.lines[(2 : Fin 16)].sender.txChar = some (.cr, 7) ∧
      (mid id).room.lines[(2 : Fin 16)].sender.halt = .none ∧
      (mid id).room.lines[(2 : Fin 16)].sender.stopPending ≠ some .cut ∧
      (mid fun x => { x with codes := [.lf, .space] }).room.lines[(2 : Fin 16)].sender.codes = .lf :: [.space]) ∧
    ((mid fun x => { x with activity := .marker .opn [] .afterOpen }).room.lines[(2 : Fin 16)].sender.codes = [] ∧
      (mid fun x => { x with activity := .marker .opn [] .afterOpen }).room.lines[(2 : Fin 16)].sender.activity =
        .marker .opn [] .afterOpen) ∧
    ((mid fun x => { x with activity := .ret .ready 7 .letters true false }).room.lines[(2 : Fin 16)].sender.codes = [] ∧
      (mid fun x => { x with activity := .ret .ready 7 .letters true false }).room.lines[(2 : Fin 16)].sender.activity =
        .ret .ready 7 .letters true false ∧
      (mid id).room.lines[(2 : Fin 16)].sender.machine = .ready ∧
      (mid id).room.lines[(2 : Fin 16)].sender.stopPending = none ∧
      (mid id).room.lines[(2 : Fin 16)].sender.identify.phase ≠ .pending ∧
      ∀ e ∈ (mid id).room.ports[linePort 2].queue, (mid id).room.stories[e.slot].held = true) := by decide

/-- Line 2 at its cut point, within the shift that opens its VOID. -/
def voiding : State := mid fun x => { x with
  machine := .sending, stopPending := some .cut, farOpen := 1, txChar := some (.shift .letters, 7), case := .letters
  activity := .marker .vd [68, 86, 68] .cutPoint, codes := [.print .letters 25] }

theorem witness_CharacterEndGoesOn_voids :
    (at2 voiding).sender.txChar = some (.shift .letters, 7) ∧ (at2 voiding).sender.halt = .none ∧
      (∃ rest, (at2 voiding).sender.activity = .marker .vd rest .cutPoint) ∧
      (at2 voiding).sender.codes = .print .letters 25 :: [] := ⟨by decide, by decide, ⟨_, rfl⟩, by decide⟩

/-- R125, R152: the VOID begun at the cut point goes on, though the column is 0 at the end of its shift. -/
theorem test_void_goes_on :
    after (exec (.sendCharacterEnd 2) voiding) (fun t => ((at2 t).sender.activity, (at2 t).sender.codes)) =
      some (.marker .vd [68, 86, 68] .cutPoint, []) := by decide

/-- Line 2 SENDING story 9 at the end of a character of its text. -/
def sendingText (text : List Cell) (f : Sender → Sender) : State :=
  nine { filedStory with text := text } (line2 fun x => f { x with
    machine := .sending, activity := .text, txChar := some (.cr, 7), current := some ⟨9, .ordinary⟩ })

/-- What every clause on a sender within text asks. -/
abbrev WithinText (s : State) : Prop :=
  (at2 s).sender.txChar = some (.cr, 7) ∧ (at2 s).sender.halt = .none ∧ (at2 s).sender.stopPending ≠ some .cut ∧
    (at2 s).sender.activity = .text ∧ (at2 s).sender.codes = [] ∧ (at2 s).sender.current = some ⟨9, .ordinary⟩

/-- The cells a sender has still to read. -/
def cellsLeft (s : State) : List Cell := (slot9 s).text.drop (at2 s).sender.readPos

theorem witness_StoryTextIsEncoded_ends :
    (WithinText (sendingText [65, 10] fun x => { x with readPos := 1 }) ∧
      cellsLeft (sendingText [65, 10] fun x => { x with readPos := 1 }) = 10 :: []) ∧
    (cellsLeft (sendingText [65] fun x => { x with readPos := 1, column := 1 }) = [] ∧
      (at2 (sendingText [65] fun x => { x with readPos := 1, column := 1 })).sender.column ≠ 0) ∧
    (cellsLeft (sendingText [65] fun x => { x with readPos := 1 }) = [] ∧
      (at2 (sendingText [65] fun x => { x with readPos := 1 })).sender.column = 0 ∧
      (sendingText [65] id).part.markers.cls = 88 :: [88, 88, 88] ∧
      (at2 (sendingText [65] id)).sender.map.letters.getD 88 none = some 28) := by decide

theorem witness_StoryTextIsEncoded_words :
    (WithinText (sendingText [32, 65] id) ∧ cellsLeft (sendingText [32, 65] id) = List.replicate 1 32 ++ 65 :: [] ∧
      isWordCell 65 = true ∧ (at2 (sendingText [32, 65] id)).sender.inWord = false ∧
      (at2 (sendingText [32, 65] fun x => { x with column := 68 })).sender.settings.width <
        68 + (0 + 1) + (at2 (sendingText [32, 65] id)).sender.wordLength 0 [65] ∧
      67 + (0 + 1) + (at2 (sendingText [32, 65] id)).sender.wordLength 0 [65] ≤
        (at2 (sendingText [32, 65] id)).sender.settings.width) ∧
    ((at2 (sendingText [65] id)).sender.map.find (at2 (sendingText [65] id)).sender.case 65 = some (.letters, 1) ∧
      (at2 (sendingText [65] id)).sender.column < (at2 (sendingText [65] id)).sender.settings.width) ∧
    (WithinText (sendingText [128] fun x => { x with inWord := true }) ∧ isWordCell 128 = true ∧
      (at2 (sendingText [128] id)).sender.map.find .letters 128 = none ∧
      (at2 (sendingText [128] id)).sender.settings.substitution ≠ 32 ∧
      ((at2 (sendingText [128] id)).sender.map.find .letters 63).isSome = true ∧
      (at2 (sendingText [128] id)).sender.map.find .letters 126 = none) ∧
    (at2 (sendingText [65] fun x => { x with column := 69 })).sender.settings.width ≤ 69 ∧
    ((at2 (sendingText [7] fun x => { x with inWord := true })).sender.inWord = true ∧
      ((at2 (sendingText [7] id)).sender.map.find .figures 7).isSome = true) ∧
    ((∀ v ∈ ([65, 7, 128] : List Nat), isWordCell v = true ∨ v = 7) ∧
      ∀ v, ([32] : List Nat).head? = some v → isWordCell v = false ∧ v ≠ 7) ∧
    ((at2 (sendingText [65] id)).sender.txChar = some (.cr, 7) ∧ 7 ≤ 7 ∧ 7 < 7 + unitTicks 1) := by
  refine ⟨by decide, by decide, by decide, by decide, by decide, ⟨by decide, fun v h => ?_⟩, by decide⟩
  cases h
  decide

/-- Story 9 FILED and pending at line 2 alone. -/
def pendingAt2 (text : List Cell) (f : Sender → Sender) : State :=
  nine { filedStory with text := text, pendingSet := emptySet.set 2 true } (sendingText text f)

theorem witness_CancelOfADelivery_requests :
    (Takes (pendingAt2 [65] id) ∧ (slot9 (pendingAt2 [65] id)).state = .filed ∧
      setMembers (slot9 (pendingAt2 [65] id)).pendingSet = [linePort 2] ∧
      (pendingAt2 [65] id).part.threshold ≤ (pendingAt2 [65] id).room.freeCount) ∧
    ((at2 (pendingAt2 [65] id)).sender.current = some ⟨9, .ordinary⟩ ∧
      (pendingAt2 [65] id).room.suspendedOf (linePort 2) ≠ some 9 ∧
      (at2 (pendingAt2 [65] id)).sender.machine = .sending ∧ (at2 (pendingAt2 [65] id)).sender.activity = .text ∧
      (at2 (pendingAt2 [65] id)).sender.halt = .none) ∧
    ((at2 (pendingAt2 [65] fun x => { x with activity := .ret .closeMarker 2 .blank true false })).sender.activity =
        .ret .closeMarker 2 .blank true false ∧ Next.closeMarker ≠ .cutPoint) ∧
    ((at2 (pendingAt2 [65] fun x => { x with suspension := .held ⟨9, .ordinary, 0, 0, 0⟩, current := none })).sender.suspension =
        .held ⟨9, .ordinary, 0, 0, 0⟩ ∧
      (at2 (pendingAt2 [65] fun x => { x with activity := .marker .brk [75] .afterBreak })).sender.activity =
        .marker .brk [75] .afterBreak) :=
  ⟨⟨takes_of (by decide), by decide⟩, by decide, by decide, by decide⟩

/-- Line 2 SENDING no story, at the end of a character. -/
def sendingNone (f : Sender → Sender) : State :=
  line2 fun x => f { x with machine := .sending, txChar := some (.cr, 7) }

theorem noWork2 (f : Sender → Sender) : NoWork (sendingNone f) (linePort 2) := fun _ h => nomatch h

theorem witness_CancelOfADelivery_ends :
    ((at2 (sendingNone id)).sender.txChar = some (.cr, 7) ∧ (at2 (sendingNone id)).sender.machine = .sending ∧
      (at2 (sendingNone id)).sender.stopPending = none ∧ (at2 (sendingNone id)).sender.current = none) ∧
    ((at2 (sendingNone fun x => { x with halt := .cancelled, activity := .text })).sender.halt = .cancelled ∧
      (at2 (sendingNone fun x => { x with halt := .cancelled, activity := .text })).sender.activity = .text ∧
      (at2 (sendingNone fun x => { x with column := 69 })).sender.column ≠ 0 ∧
      (at2 (sendingNone fun x => { x with openNow := true })).sender.openNow = true ∧
      (at2 (sendingNone id)).sender.openNow = false ∧ (at2 (sendingNone id)).sender.suspension = .empty ∧
      (at2 (sendingNone id)).sender.column = 0 ∧ (at2 (sendingNone id)).sender.identify.phase ≠ .pending) ∧
    ((at2 (sendingNone fun x => { x with halt := .heldCancelled, activity := .marker .brk [75] .afterBreak })).sender.halt =
        .heldCancelled) ∧
    ((at2 (sendingNone fun x => { x with activity := .ret .cancelled 0 .letters true false })).sender.activity =
        .ret .cancelled 0 .letters true false ∧
      (at2 (sendingNone id)).sender.halt = .none ∧ (at2 (sendingNone id)).sender.codes = [] ∧
      (at2 (sendingNone id)).sender.answerPending = false ∧ (at2 (sendingNone id)).sender.side.refresh = false) ∧
    ((sendingNone id).part.markers.vd = 86 :: [68, 86, 68] ∧
      (at2 (sendingNone id)).sender.map.letters.getD 86 none = some 25) ∧
    NoWork (sendingNone id) (linePort 2) :=
  ⟨by decide, by decide, by decide, by decide, by decide, noWork2 id⟩

/-- Line 2 at the end of a return sequence, with FLASH copy waiting or none. -/
def atReturn (next : Next) (cls : Machine.Class) (f : Sender → Sender) : State :=
  let s := nine { filedStory with pendingSet := (emptySet.set 2 true).set 0 true } (sendingNone fun x =>
    f { x with activity := .ret next 2 .blank true false })
  { s with room := (Room.story s.room 10 filedStory).modPort 2 fun p => { p with queue := [⟨10, cls, 0⟩] } }

theorem witness_FlashSuspendsAndResumes :
    ((at2 (atReturn .afterOpen .flash id)).sender.stopPending = none ∧
      (at2 (atReturn .afterOpen .flash id)).sender.txChar = some (.cr, 7) ∧
      (at2 (atReturn .afterOpen .flash id)).sender.halt = .none ∧
      (at2 (atReturn .afterOpen .flash id)).sender.codes = [] ∧
      (at2 (atReturn .afterOpen .flash id)).sender.activity = .ret .afterOpen 2 .blank true false ∧
      (at2 (atReturn .afterOpen .flash id)).sender.machine = .sending ∧
      (at2 (atReturn .afterOpen .flash id)).sender.answerPending = false ∧
      (at2 (atReturn .afterOpen .flash id)).sender.side.refresh = false ∧
      (at2 (atReturn .afterOpen .flash id)).sender.column = 0) ∧
    ((at2 (atReturn .afterOpen .flash fun x => { x with current := some ⟨9, .urgent⟩ })).sender.current =
        some ⟨9, .urgent⟩ ∧ Machine.Class.urgent ≠ .flash ∧
      (at2 (atReturn .afterOpen .flash id)).sender.suspension = .empty ∧
      (atReturn .afterOpen .flash id).room.firstEligible (linePort 2) = some ⟨10, .flash, 0⟩) ∧
    ((at2 (atReturn .afterBreak .flash fun x => { x with suspension := .held ⟨9, .urgent, 1, 1, 0⟩ })).sender.suspension =
        .held ⟨9, .urgent, 1, 1, 0⟩ ∧
      (atReturn .afterBreak .urgent id).room.firstEligible (linePort 2) = some ⟨10, .urgent, 0⟩ ∧
      (at2 (atReturn .afterBreak .flash id)).sender.restartVoid = false) ∧
    ((slot9 (atReturn .complete .urgent id)).pendingSet[(0 : Fin 24)] = true ∧ (0 : Fin 24) ≠ linePort 2 ∧
      (at2 (atReturn .complete .urgent fun x => { x with suspension := .withdrawn })).sender.suspension ≠ .empty) ∧
    ((slot9 (nine { filedStory with text := [65, 10] } (atReturn .afterResume .urgent id))).text.drop 1 = 10 :: [] ∧
      (at2 (atReturn .afterResume .urgent id)).sender.identify.phase ≠ .pending) ∧
    (0 < (at2 (atReturn .restartVoids .urgent fun x => { x with farOpen := 1 })).sender.farOpen ∧
      (at2 (atReturn .restartVoids .urgent id)).sender.farOpen = 0) ∧
    ((at2 (queued fun x => { x with machine := .starting, startTimer := some 7, restartVoid := true, farOpen := 1 })).sender.startTimer =
        some 7 ∧ (queued id).room.firstEligible (linePort 2) = some ⟨10, .ordinary, 0⟩ ∧
      (at2 (queued id)).settings.identifyBefore = false ∧ (at2 (queued id)).sender.column = 0) ∧
    ((sendingText [65] fun x => { x with halt := .broken }).room.modPort 2 fun p =>
      { p with conditions := { p.conditions with broken := true } }).ports[linePort 2].conditions.broken = true := by
  decide

/-- What every clause on the end of a DRAIN asks. -/
abbrev Drains (next : Next) (s : State) : Prop :=
  (at2 s).sender.txChar = some (.cr, 7) ∧ (at2 s).sender.halt = .none ∧ (at2 s).sender.codes = [] ∧
    (at2 s).sender.activity = .ret next 2 .blank true false ∧ (at2 s).sender.machine = .sending ∧
    (at2 s).sender.stopPending = some .drain ∧ (at2 s).sender.answerPending = false ∧
    (at2 s).sender.side.refresh = false ∧ (at2 s).sender.column = 0

/-- A DRAIN pending at the end of a return, a FLASH story waiting. -/
def draining (next : Next) (f : Sender → Sender) : State := atReturn next .flash fun x => f { x with stopPending := some .drain }

theorem witness_CharacterEndGoesOn_drains :
    (Drains .withdrawnDone (draining .withdrawnDone id) ∧ Drains .heldCancelDone (draining .heldCancelDone id) ∧
      Drains .cancelDone (draining .cancelDone id) ∧ (at2 (draining .cancelDone id)).sender.suspension = .empty) ∧
    (Drains .complete (draining .complete fun x => { x with current := some ⟨9, .urgent⟩ }) ∧
      (slot9 (draining .complete id)).pendingSet[(0 : Fin 24)] = true ∧ (0 : Fin 24) ≠ linePort 2 ∧
      (at2 (draining .complete id)).sender.suspension = .empty ∧
      (at2 (draining .complete fun x => { x with suspension := .withdrawn })).sender.suspension = .withdrawn) ∧
    (Drains .afterBreak (draining .afterBreak fun x => { x with suspension := .held ⟨9, .urgent, 1, 1, 0⟩ }) ∧
      (at2 (draining .afterBreak fun x => { x with suspension := .held ⟨9, .urgent, 1, 1, 0⟩ })).sender.suspension =
        .held ⟨9, .urgent, 1, 1, 0⟩ ∧
      (draining .afterBreak id).part.markers.res = 82 :: [83, 82, 83] ∧
      ((at2 (draining .afterBreak id)).sender.map.letters.getD 82 none).isSome = true) ∧
    (Drains (.afterLine false) (draining (.afterLine false) fun x => { x with current := some ⟨9, .urgent⟩ }) ∧
      (at2 (draining .afterOpen id)).sender.identify.phase ≠ .pending ∧
      (slot9 (nine { filedStory with text := [65, 10] } (draining .afterOpen id))).text.drop 1 = 10 :: []) :=
  ⟨by decide, by decide, ⟨by decide, by decide⟩, by decide⟩

/-- What every clause on the cut point asks. -/
abbrev Cuts (s : State) : Prop :=
  (at2 s).sender.txChar = some (.cr, 7) ∧ (at2 s).sender.halt = .none ∧ (at2 s).sender.machine = .sending ∧
    (at2 s).sender.stopPending = some .cut ∧ (at2 s).sender.column = 0 ∧ (at2 s).sender.side.refresh = false

/-- A CUT pending at the end of a return, its current story 9. -/
def cutting (next : Next) (f : Sender → Sender) : State :=
  atReturn next .flash fun x => f { x with stopPending := some .cut, current := some ⟨9, .urgent⟩ }

theorem witness_CharacterEndGoesOn_cuts :
    (Cuts (cutting .closeMarker id) ∧ (at2 (cutting .closeMarker id)).sender.codes = [] ∧
      (at2 (cutting .closeMarker id)).sender.activity = .ret .closeMarker 2 .blank true false ∧
      (at2 (cutting .closeMarker id)).sender.farOpen = 0 ∧
      Cuts (cutting .cutPoint fun x => { x with farOpen := 1, suspension := .held ⟨10, .urgent, 1, 1, 0⟩ }) ∧
      (at2 (cutting .cutPoint fun x => { x with farOpen := 1 })).sender.farOpen ≠ 0 ∧
      (cutting .cutPoint id).part.markers.vd = 86 :: [68, 86, 68] ∧
      ((at2 (cutting .cutPoint id)).sender.map.letters.getD 86 none).isSome = true) ∧
    (Cuts (cutting .complete id) ∧ Cuts (cutting .complete fun x => { x with activity := .ret .complete 2 .blank true true }) ∧
      (at2 (cutting .complete id)).sender.activity = .ret .complete 2 .blank true false ∧
      (at2 (cutting .complete id)).sender.current = some ⟨9, .urgent⟩ ∧
      (slot9 (cutting .complete id)).pendingSet[(0 : Fin 24)] = true ∧ (0 : Fin 24) ≠ linePort 2) ∧
    (Cuts (cutting .text fun x => { x with activity := .text }) ∧
      Cuts (cutting .text fun x => { x with activity := .answer [65] .text }) ∧
      Cuts (cutting .text fun x => { x with activity := .marker .cls [88] .complete }) ∧
      Next.text ≠ .cutPoint ∧ Next.complete ≠ .cutPoint) ∧
    ((at2 (cutting .text fun x => { x with activity := .text, column := 3, codes := [.space] })).sender.column ≠ 0 ∧
      (at2 (cutting .text fun x => { x with codes := [.lf] })).sender.codes = .lf :: []) :=
  ⟨by decide, by decide, by decide, by decide⟩

theorem witness_IdentifyWindowExpires :
    ((collecting 1 .figures).room.lines[(2 : Fin 16)].sender.identify.phase = .collecting ∧
      (collecting 1 .figures).room.lines[(2 : Fin 16)].sender.identify.timer = some 7 ∧
      (collecting 1 .figures).room.lines[(2 : Fin 16)].sender.identify.tryNumber <
        (collecting 1 .figures).room.lines[(2 : Fin 16)].settings.tries ∧
      (collecting 1 .figures).room.lines[(2 : Fin 16)].sender.identPos = some 28 ∧
      (collecting 1 .figures).room.lines[(2 : Fin 16)].sender.case = .figures ∧
      (collecting 1 .unknown).room.lines[(2 : Fin 16)].sender.case ≠ .figures) ∧
    ((collecting 2 .figures).room.lines[(2 : Fin 16)].settings.tries ≤
        (collecting 2 .figures).room.lines[(2 : Fin 16)].sender.identify.tryNumber ∧
      (collecting 2 .figures).room.lines[(2 : Fin 16)].sender.identify.request = true ∧
      (collecting 2 .figures).room.link.records = [⟨.line 2, 4⟩] ∧
      (collecting 2 .figures).room.link.replies.length < 8 ∧ (collecting 2 .figures).room.link.waiting = []) := by decide

/-- Line 2 framing a character in an exchange. -/
def hearing (phase : Phase) (collector : List Cell) : State :=
  { collecting 2 .figures with room := (collecting 2 .figures).room.modLine 2 fun x =>
    { x with
      receiver := { x.receiver with state := .framing }
      sender := { x.sender with identify := { x.sender.identify with phase := phase, collector := collector } } } }

theorem witness_ExchangeMatchesAndCloses_cells :
    ((at2 (hearing .collecting [])).receiver.state = .framing ∧ (at2 (hearing .collecting [])).decoder.returnSeen = false ∧
      isFunctionCode (1 : Fin 32).val = false ∧
      ((at2 (hearing .collecting [])).decoder.side.copy.half (at2 (hearing .collecting [])).decoder.case)[(1 : Fin 32)] =
        some (.print 65) ∧ (31 : Fin 32) ≠ 0) ∧
    ((at2 (hearing .calling [])).sender.identify.phase = .calling ∧
      2 ≤ (at2 (hearing .calling [])).sender.identify.tryNumber) ∧
    40 ≤ (at2 (hearing .collecting (List.replicate 40 66))).sender.identify.collector.length ∧
    (at2 (hearing .collecting (List.replicate 39 66))).sender.identify.collector.length < 40 ∧
    ((at2 (hearing .collecting [])).settings.expected ≠ [] ∧ ([66] ++ [97] : List Cell) = [66] ++ [97] ++ [] ∧
      ([97] : List Cell).map upper = (at2 (hearing .collecting [])).settings.expected.map upper) ∧
    (∀ before run after : List Cell, ([] ++ [128] : List Cell) = before ++ run ++ after →
      run.map upper ≠ (at2 (hearing .collecting [])).settings.expected.map upper) ∧
    ((at2 (hearing .collecting [])).sender.identify.request = true ∧
      (hearing .collecting []).room.link.records = [⟨.line 2, 4⟩] ∧
      (hearing .collecting []).room.link.replies.length < 8 ∧ (hearing .collecting []).room.link.waiting = []) := by
  refine ⟨by decide, by decide, by decide, by decide, by decide, fun before run after e h => ?_, by decide⟩
  have a : (65 : Nat) ∈ run.map upper := h ▸ by decide
  obtain ⟨c, hc, hu⟩ := List.mem_map.mp a
  have : c ∈ ([] ++ [128] : List Cell) := e ▸ List.mem_append_left _ (List.mem_append_right _ hc)
  cases List.mem_singleton.mp this
  exact absurd hu (by decide)

/-- Line 2 IDENTIFYING at the end of a character. -/
def exchanging (outcome : ExchangeOutcome) (f : Sender → Sender) : State :=
  line2 fun x => f { x with
    machine := .identifying, txChar := some (.cr, 7), activity := .ret .exchangeClosed 2 .blank true false
    identify := { x.identify with phase := .closing, outcome := outcome, tryNumber := 1, collector := [65] } }

theorem witness_ExchangeMatchesAndCloses_ends :
    ((at2 (exchanging .none fun x => { x with activity := .call })).sender.activity = .call ∧
      (at2 (exchanging .none id)).sender.stopPending ≠ some .cut) ∧
    ((at2 (exchanging .done id)).sender.txChar = some (.cr, 7) ∧ (at2 (exchanging .done id)).sender.halt = .none ∧
      (at2 (exchanging .done id)).sender.codes = [] ∧
      (at2 (exchanging .done id)).sender.activity = .ret .exchangeClosed 2 .blank true false ∧
      (at2 (exchanging .done id)).sender.machine = .identifying ∧
      (at2 (exchanging .done id)).sender.stopPending = none ∧
      (at2 (exchanging .done id)).sender.side.refresh = false ∧ (at2 (exchanging .done id)).sender.column = 0 ∧
      (at2 (exchanging .done id)).sender.identify.outcome = .done ∧
      (at2 (exchanging .done id)).sender.answerPending = false) ∧
    ((at2 (exchanging .done fun x => { x with current := some ⟨9, .urgent⟩, readPos := 1 })).sender.current =
        some ⟨9, .urgent⟩ ∧
      (slot9 (nine { filedStory with text := [65, 10] } (exchanging .done id))).text.drop 1 = 10 :: []) ∧
    ((at2 (exchanging .done id)).sender.current = none ∧
      (at2 (exchanging .done fun x => { x with openNow := true })).sender.openNow = true ∧
      (at2 (exchanging .done id)).sender.openNow = false ∧ (at2 (exchanging .done id)).sender.restartVoid = false ∧
      (exchanging .done id).part.markers.vd = 86 :: [68, 86, 68] ∧
      (at2 (exchanging .done id)).sender.map.letters.getD 86 none = some 25) ∧
    ({ exchanging .done id with room := (Room.story (exchanging .done id).room 10 filedStory).modPort 2 fun p =>
      { p with queue := [⟨10, .deferred, 0⟩] } } : State).room.firstEligible (linePort 2) = some ⟨10, .deferred, 0⟩ ∧
    ((at2 (exchanging .failed id)).sender.identify.outcome = .failed ∧
      ((exchanging .failed id).room.modPort 2 fun p => { p with conditions := { p.conditions with
        unidentified := true } }).ports[linePort 2].conditions.unidentified = true) ∧
    ((at2 (collecting 1 .figures)).sender.identify.tryNumber < (at2 (collecting 1 .figures)).settings.tries ∧
      1 ≤ (at2 (collecting 1 .figures)).sender.identify.tryNumber) ∧
    ∀ e ∈ (exchanging .done id).room.ports[linePort 2].queue, (exchanging .done id).room.stories[e.slot].held = true := by
  decide

/-- Line 2 with the answerback "A" and a blank after it, its IDENT code being received. -/
def answering (f : Sender → Sender) : State :=
  { line2 f with room := (line2 f).room.modLine 2 fun x => { x with
    settings := { x.settings with answerback := [65, 32] }
    receiver := { x.receiver with state := .framing }, decoder := { x.decoder with case := .figures } } }

theorem witness_AnswersAreSent_requests :
    ((at2 (answering id)).receiver.state = .framing ∧ isFunctionCode (28 : Fin 32).val = false ∧
      ((at2 (answering id)).decoder.side.copy.half (at2 (answering id)).decoder.case)[(28 : Fin 32)] = some .ident) ∧
    ((at2 (answering fun x => { x with machine := .blocked })).sender.machine = .blocked ∧
      (at2 (answering fun x => { x with activity := .answer [] .ready })).sender.activity = .answer [] .ready ∧
      (at2 (answering fun x => { x with activity := .ret .answerReady 0 .blank true false })).sender.activity =
        .ret .answerReady 0 .blank true false ∧
      (at5 ready).settings.mode ≠ .both ∧ (at2 (line2 id)).settings.answerback = []) ∧
    ((at2 (answering id)).settings.mode = .both ∧
      (answering id).room.ports[linePort 2].conditions.unidentified = false ∧
      (at2 (answering id)).settings.answerback = 65 :: [32] ∧ (at2 (answering id)).sender.halt = .none ∧
      (at2 (answering id)).sender.activity = .idle) ∧
    (at2 (answering fun x => { x with machine := .starting })).sender.machine = .starting ∧
    ((at2 (answering fun x => { x with machine := .ready })).sender.machine = .ready ∧
      (at2 (answering id)).sender.column = 0 ∧
      ((at2 (answering id)).sender.encode 65).1 = .shift .letters :: [.print .letters 1] ∧
      (at2 (answering fun x => { x with column := 1 })).sender.column ≠ 0) := by decide

/-- Line 2 with that answerback at the end of a character. -/
def atAnswer (m : SendMachine) (a : Activity) (f : Sender → Sender) : State :=
  answering fun x => f { x with machine := m, txChar := some (.cr, 7), activity := a }

/-- What every clause on the end of a character asks. -/
abbrev AnswerEnds (s : State) : Prop :=
  (at2 s).sender.txChar = some (.cr, 7) ∧ (at2 s).sender.halt = .none ∧ (at2 s).sender.codes = [] ∧
    (at2 s).sender.staged = StagedSend.none ∧ (at2 s).sender.side.refresh = false

theorem witness_AnswersAreSent_ends :
    (AnswerEnds (atAnswer .ready (.answer [32] .ready) id) ∧
      (at2 (atAnswer .ready (.answer [32] .ready) id)).sender.stopPending = none ∧
      (at2 (atAnswer .ready (.answer [] .ready) id)).sender.activity = .answer [] .ready ∧
      Next.ready ≠ .text ∧ (at2 (atAnswer .ready .idle id)).sender.inWord = false) ∧
    (AnswerEnds (atAnswer .sending (.ret .closeMarker 0 .blank true false) fun x => { x with answerPending := true }) ∧
      (at2 (atAnswer .sending .idle fun x => { x with answerPending := true })).sender.answerPending = true ∧
      (at2 (atAnswer .identifying .idle id)).sender.machine = .identifying ∧
      ((atAnswer .sending .idle id).room.lines[(2 : Fin 16)].sender.encode 65).1 ≠ []) ∧
    ((at2 (atAnswer .sending (.ret .afterResume 0 .blank true false) fun x =>
        { x with suspension := .held ⟨9, .urgent, 1, 0, 0⟩, answerPending := true })).sender.suspension =
      .held ⟨9, .urgent, 1, 0, 0⟩) ∧
    (at2 (atAnswer .starting (.ret .answerStarting 0 .blank true false) id)).sender.machine = .starting ∧
    ((at2 (mid fun x => { x with activity := .ret .answerReady 0 .blank true false })).settings.answerback = [] ∧
      (at2 (mid fun x => { x with activity := .ret .answerReady 0 .blank true false })).sender.machine = .ready ∧
      ∀ e ∈ (mid id).room.ports[linePort 2].queue, (mid id).room.stories[e.slot].held = true) ∧
    ((at2 (atAnswer .sending (.ret .text 0 .blank true true) fun x =>
        { x with current := some ⟨9, .urgent⟩, readPos := 1 })).sender.current = some ⟨9, .urgent⟩ ∧
      (slot9 (nine { filedStory with text := [65, 10] } (atAnswer .sending .idle id))).text.drop 1 = 10 :: []) ∧
    ((at2 (atAnswer .sending (.ret .complete 0 .blank true true) fun x =>
        { x with stopPending := some .cut, current := some ⟨9, .urgent⟩ })).sender.stopPending = some .cut ∧
      (at2 (atAnswer .sending .idle id)).sender.farOpen = 0) := by decide

theorem witness_AnswersAreSent_starting :
    (at2 (answering fun x =>
      { x with machine := .starting, startTimer := some 7, answerPending := true })).sender.startTimer = some 7 ∧
    (at2 (answering fun x =>
      { x with machine := .starting, startTimer := some 7, answerPending := true })).sender.answerPending = true ∧
    (at2 (answering fun x => { x with machine := .starting, column := 1 })).sender.column ≠ 0 := by decide

/-- Port 23, out of service, with an entry as old as its interval. -/
def old (cls : Machine.Class) (seconds : Seconds) : State :=
  { on (fun r => (Room.story r 9 filedStory).modPort 23 fun p => { p with queue := [⟨9, cls, 0⟩] }) with
    time := { State.reset.time with seconds := seconds } }

theorem witness_DueEntryIsPromoted :
    ((old .ordinary 900).room.ports[(23 : Fin 24)].queue = [] ++ ⟨9, .ordinary, 0⟩ :: [] ∧
      (old .ordinary 900).room.ports[(23 : Fin 24)].promotion ≠ 0 ∧
      60 * (old .ordinary 900).room.ports[(23 : Fin 24)].promotion ≤ ((old .ordinary 900).time.seconds - 0).toNat ∧
      (∀ l : Fin 16, 23 = linePort l → (old .ordinary 900).room.lines[l].sender.machine = .out) ∧
      ∀ d : Fin 8, 23 = deskPort d → (old .ordinary 900).room.desks[d].state = .out) ∧
    ((⟨9, .flash, 0⟩ : QEntry) ∈ (old .flash 900).room.ports[(23 : Fin 24)].queue ∧
      ((old .ordinary 899).time.seconds - 0).toNat < 60 * (old .ordinary 899).room.ports[(23 : Fin 24)].promotion) := by
  decide

/-- Line 2 at the end of a return in SENDING or READY with story 9 and a PENDING exchange. -/
def pendingAt (m : SendMachine) (next : Next) : State :=
  nine { filedStory with text := [65, 10] } (line2 fun x => { x with
    machine := m, txChar := some (.lf, 7), activity := .ret next 0 .blank true false
    current := some ⟨9, .urgent⟩, readPos := 1, identify := { x.identify with phase := .pending } })

theorem witness_IdentifyBegins_returns :
    (AnswerEnds (line2 fun x => { x with txChar := some (.cr, 7) }) ∧
      (at2 (pendingAt .ready .ready)).sender.txChar = some (.lf, 7) ∧
      (at2 (pendingAt .ready .ready)).sender.halt = .none ∧ (at2 (pendingAt .ready .ready)).sender.codes = [] ∧
      (at2 (pendingAt .ready .ready)).sender.stopPending = none ∧
      (at2 (pendingAt .ready .ready)).sender.staged = StagedSend.none ∧
      (at2 (pendingAt .ready .ready)).sender.side.refresh = false ∧
      (at2 (pendingAt .ready .ready)).sender.activity = .ret .ready 0 .blank true false ∧
      (at2 (pendingAt .ready .ready)).sender.identPos ≠ none ∧
      (at2 (pendingAt .ready .ready)).sender.machine = .ready ∧
      (at2 (pendingAt .ready .ready)).sender.identify.phase = .pending) ∧
    ((at2 (pendingAt .sending .text)).sender.machine = .sending ∧
      (at2 (pendingAt .sending .text)).sender.answerPending = false ∧
      (at2 (pendingAt .sending .text)).sender.activity = .ret .text 0 .blank true false ∧
      (at2 (pendingAt .sending .text)).sender.current = some ⟨9, .urgent⟩ ∧
      (slot9 (pendingAt .sending .text)).text.drop 1 = 10 :: []) ∧
    ((at2 (pendingAt .sending .cancelDone)).sender.activity = .ret .cancelDone 0 .blank true false ∧
      (at2 (pendingAt .sending .cancelDone)).sender.suspension = .empty) ∧
    ((at2 (pendingAt .sending .withdrawnDone)).sender.activity = .ret .withdrawnDone 0 .blank true false) := by decide

/-- The ends of a return behind which a cell would be sent: after OPEN and a stored line end with no FLASH waiting, after a
RESUME, and before spaces and a word of dropped cells. -/
theorem witness_IdentifyBegins_texts :
    (isWordCell 126 = true ∧
      (slot9 (nine { filedStory with text := [65, 32, 126] } (pendingAt .sending (.afterLine true)))).text.drop 1 = 32 :: [126]) ∧
    ((at2 (pendingAt .sending .afterOpen)).sender.activity = .ret .afterOpen 0 .blank true false ∧
      (at2 (pendingAt .sending .afterOpen)).sender.machine = .sending ∧
      (at2 (pendingAt .sending .afterOpen)).sender.identify.phase = .pending ∧
      (pendingAt .sending .afterOpen).room.ports[linePort 2].queue = []) ∧
    (let s := nine { filedStory with text := [65, 7] } (line2 fun x => { x with
        machine := .sending, txChar := some (.lf, 7), activity := .ret .afterResume 0 .blank true false
        suspension := .held ⟨9, .ordinary, 1, 0, 2⟩, identify := { x.identify with phase := .pending } });
      (at2 s).sender.suspension = .held ⟨9, .ordinary, 1, 0, 2⟩ ∧ (slot9 s).text.drop 1 = 7 :: [] ∧
      ({ (at2 s).sender with case := .unknown } : Sender).encodeBell ≠ []) ∧
    ((at2 (pendingAt .sending .text)).sender.column = 0 ∧
      (∀ z ∈ (slot9 (nine { filedStory with text := [65, 32, 32] } (pendingAt .sending .text))).text.drop 1, z = 32) ∧
      (pendingAt .sending .text).part.markers.cls = 88 :: [88, 88, 88] ∧
      (at2 (pendingAt .sending .text)).sender.map.letters.getD 88 none = some 28) := by decide

/-- R131, R157: the spaces before a word whose cells are all dropped are sent, so the exchange begins before them. -/
theorem test_exchange_before_spaces :
    after (exec (.sendCharacterEnd 2) (nine { filedStory with text := [65, 32, 126] } (line2 fun x => { x with
      machine := .sending, txChar := some (.lf, 7), activity := .ret .text 0 .blank true false, readPos := 1
      current := some ⟨9, .urgent⟩, identify := { x.identify with phase := .pending }
      settings := { x.settings with substitution := 126 } }))) (fun t =>
        ((at2 t).sender.machine, (at2 t).sender.readPos)) = some (.identifying, 1) := by decide

/-- Line 2 in AWAITING with a cell in its window. -/
def awaiting : State :=
  { line2 id with room := (line2 fun x => { x with
    machine := .identifying, identify := { x.identify with phase := .awaiting } }).room.modLine 2 fun x =>
      { x with assembler := { x.assembler with machine := .hunt, window := [86], timer := some 7 } } }

theorem witness_IdentifyBegins_awaiting :
    (at2 awaiting).assembler.timer = some 7 ∧ (at2 awaiting).assembler.machine = .hunt ∧
      (at2 awaiting).assembler.suspended = none ∧ (at2 awaiting).sender.identify.phase = .awaiting ∧
      (at2 awaiting).sender.identPos = some 28 := by decide

/-- What PORT STOP of a line with an exchange asks. -/
abbrev Stops (s : State) : Prop :=
  s.room.ports[linePort 2].inService = true ∧ (at2 s).assembler.current = none ∧ (at2 s).assembler.suspended = none ∧
    (at2 s).assembler.window = [] ∧ (at2 s).sender.identify.phase ≠ .none ∧ s.room.link.waiting = []

theorem witness_PortStop_exchange :
    (Takes (collecting 1 .figures) ∧ Stops (collecting 1 .figures) ∧
      (at2 (collecting 1 .figures)).sender.machine = .identifying ∧ (at2 (collecting 1 .figures)).sender.txChar = none ∧
      (at2 (collecting 1 .figures)).sender.column = 0 ∧ (at2 (collecting 1 .figures)).sender.farOpen = 0 ∧
      (at2 (collecting 1 .figures)).sender.suspension = .empty ∧
      (at2 (collecting 1 .figures)).sender.identify.request = true ∧
      (at2 (collecting 1 .figures)).sender.identify.outcome = .none ∧
      (collecting 1 .figures).room.link.records = [⟨.line 2, 4⟩] ∧
      (collecting 1 .figures).room.link.replies.length + 2 ≤ 8) ∧
    (Takes (exchanging .done id) ∧ Stops (exchanging .done id) ∧
      (at2 (exchanging .done id)).sender.identify.outcome ≠ .none ∧
      (at2 (exchanging .done id)).sender.machine = .identifying ∧ (at2 (exchanging .done id)).sender.txChar ≠ none ∧
      (at2 (exchanging .done id)).sender.activity = .ret .exchangeClosed 2 .blank true false ∧
      (at2 (exchanging .none fun x => { x with activity := .call })).sender.activity = .call ∧
      (at2 (exchanging .none id)).sender.halt = .none ∧
      (at2 (exchanging .none fun x => { x with column := 1, txChar := none })).sender.txChar = none ∧
      (at2 (exchanging .none fun x => { x with column := 1, txChar := none })).sender.column ≠ 0) ∧
    (Takes (pendingAt .sending .text) ∧ Stops (pendingAt .sending .text) ∧
      (at2 (pendingAt .sending .text)).sender.machine = .sending ∧
      (at2 (pendingAt .sending .text)).sender.identify.request = false) ∧
    (Stops (line2 fun x => { x with identify := { x.identify with phase := .pending } }) ∧
      (at2 (line2 id)).sender.machine = .quiet ∧ (at2 (line2 id)).sender.txChar = none) ∧
    ((at2 (exchanging .none fun x => { x with activity := .call, halt := .stopped })).sender.halt = .stopped ∧
      (at2 (exchanging .none fun x => { x with activity := .call, halt := .stopped, column := 1 })).sender.column ≠ 0 ∧
      (at2 (exchanging .none fun x => { x with activity := .call, halt := .stopped })).sender.farOpen = 0) :=
  ⟨⟨takes_of (by decide), by decide⟩, ⟨takes_of (by decide), by decide⟩, ⟨takes_of (by decide), by decide⟩, by decide,
    by decide⟩

/-- Two entries of one class, queued at the same moment. -/
def oldPair : State :=
  { on (fun r => r.modPort 23 fun p => { p with queue := [⟨8, .ordinary, 0⟩, ⟨9, .ordinary, 0⟩] }) with
    time := { State.reset.time with seconds := 900 } }

theorem witness_DueEntryIsPromoted_pair :
    oldPair.room.ports[(23 : Fin 24)].queue = ([] ++ ⟨8, .ordinary, 0⟩ :: []) ++ ⟨9, .ordinary, 0⟩ :: [] ∧
      (∀ y ∈ ([⟨8, .ordinary, 0⟩] : List QEntry), y.slot ≠ 9) ∧
      60 * oldPair.room.ports[(23 : Fin 24)].promotion ≤ (oldPair.time.seconds - 0).toNat := by decide

/-! ## Witnesses: desks -/

/-- Desk 7 in service in a state, echo off. -/
def atDesk (state : DeskState) (f : Desk → Desk) : State :=
  on fun r => (Room.serve r 23).modDesk 7 fun d =>
    f { d with state := state, settings := { d.settings with echo := false } }

theorem witness_DeskCharactersReceived :
    ((atDesk .idle id).room.desks[(7 : Fin 8)].state ≠ .out ∧ 32 ≤ (126 : Fin 128).val ∧ (126 : Fin 128).val ≤ 126 ∧
      (126 : Fin 128).val ∉ (atDesk .idle id).room.desks[(7 : Fin 8)].settings.codes ∧
      (atDesk .idle id).room.desks[(7 : Fin 8)].state = .idle ∧
      (atDesk .idle id).room.desks[(7 : Fin 8)].settings.echo = false) ∧
    ((atDesk .composing fun d => { d with buffer := List.replicate 79 65 }).room.desks[(7 : Fin 8)].state = .composing ∧
      (atDesk .composing fun d => { d with buffer := List.replicate 79 65 }).room.desks[
        (7 : Fin 8)].buffer.length < 80) ∧
    (80 ≤ (atDesk .composing fun d => { d with buffer := List.replicate 80 65 }).room.desks[(7 : Fin 8)].buffer.length ∧
      (atDesk .composing id).room.desks[(7 : Fin 8)].pause = false ∧
      (atDesk .composing fun d => { d with short := List.replicate 15 7 }).room.desks[(7 : Fin 8)].short.length < 16 ∧
      (atDesk .composing fun d => { d with txChar := some 7 }).room.desks[(7 : Fin 8)].txChar ≠ none) ∧
    ((atDesk .idle id).room.desks[(7 : Fin 8)].settings.pauseCode = (19 : Fin 128).val ∧
      delivering.room.desks[(7 : Fin 8)].state = .delivering ∧ delivering.room.desks[(7 : Fin 8)].pause = false ∧
      delivering.room.desks[(7 : Fin 8)].output = .story (.text 0)) ∧
    ((atDesk .stalled id).room.desks[(7 : Fin 8)].state = .stalled ∧
      (atDesk .stalled id).room.desks[(7 : Fin 8)].settings.resumeCode ≠ (19 : Fin 128).val ∧
      (atDesk .stalled id).room.desks[(7 : Fin 8)].settings.resumeCode = (17 : Fin 128).val ∧
      (atDesk .stalled fun d => { d with txChar := some 7 }).room.desks[(7 : Fin 8)].txChar ≠ none ∧
      (∀ e ∈ (atDesk .stalled id).room.ports[deskPort 7].queue, (atDesk .stalled id).room.stories[e.slot].held = true)) ∧
    ((at7 (atDesk .composing fun d => { d with clearing := true, txChar := some 65 })).clearing = true ∧
      (at7 (atDesk .composing id)).clearing = false) := by
  decide

/-- Desk 7 delivering story 9 from its first cell, at rest, with the pause flag set. -/
def paused (f : Desk → Desk) : State :=
  let s := nine { filedStory with text := [65] } delivering
  { s with room := s.room.modDesk 7 fun x => f { x with pause := true } }

theorem witness_DeskCharactersReceived_paused :
    ((at7 (paused id)).clearing = false ∧ (at7 (paused id)).state = .delivering ∧ (at7 (paused id)).pause = true ∧
      (at7 (paused id)).settings.pauseCode = (19 : Fin 128).val ∧
      (at7 (paused id)).settings.pauseCode ≠ (17 : Fin 128).val ∧
      (at7 (paused id)).settings.resumeCode = (17 : Fin 128).val) ∧
    ((at7 (paused fun x => { x with pause := false, output := .withdrawal [10] })).output = .withdrawal [10] ∧
      (at7 (paused fun x => { x with pause := false })).pause = false ∧
      (at7 (paused fun x => { x with txChar := some 65 })).txChar ≠ none ∧
      (at7 (paused fun x => { x with short := [7] })).short = 7 :: [] ∧
      (at7 (paused fun x => { x with output := .none })).output = .none) ∧
    ((at7 (paused id)).txChar = none ∧ (at7 (paused id)).short = [] ∧ (at7 (paused id)).output = .story (.text 0) ∧
      (at7 (paused id)).current = some ⟨9, .urgent⟩ ∧ (slot9 (paused id)).text[0]? = some 65) ∧
    ((at7 (paused id)).settings.pauseCode ≠ (13 : Fin 128).val ∧
      (at7 (paused id)).settings.resumeCode ≠ (13 : Fin 128).val ∧
      (at7 (paused fun x => { x with short := List.replicate 16 7 })).short.length = 16 ∧
      (at7 (atDesk .idle id)).settings.rubout = (127 : Fin 128).val ∧
      (at7 (atDesk .idle id)).settings.rubout ≠ (13 : Fin 128).val) := by decide

/-- Desk 7 STALLED at rest with a story in its queue. -/
def stalledWithWork : State :=
  let s := atDesk .stalled fun d => { d with lineStart := false }
  nine filedStory { s with room := s.room.modPort 23 fun p => { p with queue := [⟨9, .urgent, 0⟩] } }

theorem witness_DeskCharactersReceived_recovers :
    (at7 stalledWithWork).clearing = false ∧ (at7 stalledWithWork).state = .stalled ∧
      (at7 stalledWithWork).settings.resumeCode = (17 : Fin 128).val ∧ (at7 stalledWithWork).txChar = none ∧
      (at7 stalledWithWork).short = [] ∧ (at7 stalledWithWork).lineStart = false ∧
      stalledWithWork.room.firstEligible (deskPort 7) = some ⟨9, .urgent, 0⟩ ∧
      (at7 stalledWithWork).settings.codesAgree = true := by decide

/-- Desk 7 COMPOSING within a character, with story 9 begun or none. -/
def composes (x : Story) (f : Desk → Desk) : State :=
  nine x (atDesk .composing fun d => f { d with txChar := some 65, buffer := [66] })

theorem witness_DeskComposes :
    ((at7 (composes .blank id)).clearing = false ∧ (at7 (composes .blank id)).state = .composing ∧
      (at7 (composes .blank id)).txChar ≠ none ∧ (at7 (composes .blank id)).pause = false ∧
      (at7 (composes .blank id)).short.length < 16 ∧
      (composes .blank id).room.freeCount = (composes .blank id).room.pool.length ∧
      (composes .blank id).part.keywords = Vector.replicate 24 none ∧
      (composes .blank id).room.waitList = Vector.replicate 16 false ∧
      (∀ v ∈ [13, 4, 24, 127, 65], v ≠ (at7 (composes .blank id)).settings.pauseCode ∧
        v ≠ (at7 (composes .blank id)).settings.resumeCode)) ∧
    (13 ∉ (at7 (composes .blank id)).settings.codes ∧ (at7 (composes .blank id)).settings.echo = false ∧
      (∀ c ∈ (at7 (composes .blank id)).buffer, c ≠ 10) ∧ (at7 (composes .blank id)).composing = none ∧
      (composes .blank id).room.stories[(0 : Fin 256)].state = .free ∧
      (composes .blank id).room.stories[(0 : Fin 256)].noticePending = false ∧
      (at7 (composes .blank id)).buffer.length + 1 ≤ (at7 (composes .blank id)).settings.maxLength ∧
      (composes .blank id).part.threshold + blocksFor 2 ≤ (composes .blank id).room.freeCount) ∧
    ((at7 (composes hostStory fun d => { d with composing := some 9 })).composing = some 9 ∧
      (slot9 (composes hostStory id)).text.length + 1 + 1 ≤ (slot9 (composes hostStory id)).limit ∧
      (slot9 (composes { hostStory with limit := 4 } id)).limit <
        (slot9 (composes { hostStory with limit := 4 } id)).text.length + 1 + 1) ∧
    ((at7 (composes .blank id)).settings.fileCode = 4 ∧ (at7 (composes .blank fun d => { d with buffer := [] })).buffer = [] ∧
      (slot9 (composes { hostStory with origin := some (.desk 7) } id)).text ≠ [] ∧
      (slot9 (composes { hostStory with origin := some (.desk 7) } id)).origin = some (.desk 7) ∧
      (slot9 (composes hostStory id)).keywords = emptySet ∧ (slot9 (composes hostStory id)).pendingSet = emptySet ∧
      parseHeader (slot9 (composes hostStory id)).text = none ∧
      (composes hostStory id).part.defaultSet = emptySet) ∧
    ((at7 (composes .blank id)).settings.cancelCode = 24 ∧ (at7 (composes .blank id)).settings.rubout = 127 ∧
      (at7 (composes .blank id)).buffer = [] ++ [66] ∧
      ∀ e ∈ (composes hostStory id).room.ports[deskPort 7].queue, e.slot ≠ 9) ∧
    (65 ∉ (at7 (composes .blank id)).settings.codes ∧
      (at7 (composes .blank fun d => { d with settings := { d.settings with echo := true } })).settings.echo = true ∧
      (at7 (composes .blank fun d => { d with buffer := List.replicate 79 66 })).buffer.length < 80) ∧
    NoWork (composes .blank id) (deskPort 7) :=
  ⟨by decide +kernel, by decide, by decide, by decide, by decide, by decide, fun _ h => nomatch h⟩

/-- A full directory with desk 7 COMPOSING its first line. -/
def noSlot : State :=
  { fullDirectory with room := fullDirectory.room.modDesk 7 fun d => { d with state := .composing, buffer := [66] } }

theorem witness_DeskComposes_files :
    ((at7 (composes .blank fun d => { d with txChar := none })).txChar = none ∧ (at7 (composes .blank id)).buffer ≠ [] ∧
      (composes .blank id).part.defaultSet = emptySet ∧ parseHeader ((at7 (composes .blank id)).buffer ++ [10]) = none ∧
      ∀ e ∈ (composes .blank id).room.ports[deskPort 7].queue, e.slot ≠ 0) ∧
    ((slot9 (composes { hostStory with origin := some (.desk 7) } id)).origin = some (.desk 7) ∧
      parseHeader ((slot9 (composes hostStory id)).text ++ [66] ++ [10]) = none) ∧
    ((at7 noSlot).composing = none ∧ (at7 noSlot).buffer ≠ [] ∧
      ∀ j : Fin 256, noSlot.room.stories[j].state ≠ .free ∨ noSlot.room.stories[j].noticePending = true) ∧
    ∀ v ∈ [10, 9], v ∉ (at7 (composes .blank id)).settings.codes := by decide +kernel

/-- Desk 7 at the end of a delivery of a story that port 0 has still to send. -/
def lastCharacter : State :=
  { delivering with
    room := (Room.story delivering.room 9
      { filedStory with pendingSet := (emptySet.set 23 true).set 0 true }).modDesk 7 fun d =>
        { d with output := .story .finished, txChar := some 10 } }

theorem witness_DeskSendsAndStalls :
    ((atDesk .idle fun d => { d with txChar := some 7, short := [10, 65] }).room.desks[(7 : Fin 8)].txChar = some 7 ∧
      (atDesk .idle id).room.desks[(7 : Fin 8)].state ≠ .out ∧
      (atDesk .idle id).room.desks[(7 : Fin 8)].pause = false ∧
      (atDesk .idle id).room.desks[(7 : Fin 8)].output = .none ∧
      (atDesk .idle fun d => { d with txChar := some 7, short := [10, 65] }).room.desks[(7 : Fin 8)].short = 10 :: [65]) ∧
    (lastCharacter.room.desks[(7 : Fin 8)].txChar = some 10 ∧
      lastCharacter.room.desks[(7 : Fin 8)].output = .story .finished ∧
      lastCharacter.room.desks[(7 : Fin 8)].current = some ⟨9, .urgent⟩ ∧
      lastCharacter.room.desks[(7 : Fin 8)].short = [] ∧
      lastCharacter.room.stories[(9 : Fin 256)].pendingSet[(0 : Fin 24)] = true ∧ (0 : Fin 24) ≠ deskPort 7 ∧
      ∀ e ∈ lastCharacter.room.ports[deskPort 7].queue, lastCharacter.room.stories[e.slot].held = true) ∧
    (lastCharacter.room.desks[(7 : Fin 8)].state = .delivering ∧
      lastCharacter.room.desks[(7 : Fin 8)].stall = some 100 ∧ lastCharacter.room.desks[(7 : Fin 8)].clearing = false) ∧
    ((at7 (atDesk .composing fun d => { d with clearing := true, txChar := some 65 })).clearing = true ∧
      (at7 (atDesk .composing fun d => { d with clearing := true, txChar := some 65 })).txChar = some 65 ∧
      (at7 (atDesk .composing id)).short = [] ∧
      ∀ e ∈ (atDesk .composing id).room.ports[deskPort 7].queue,
        (atDesk .composing id).room.stories[e.slot].held = true) := by decide

/-- Story 9 FILED and pending at desk 7 alone, its delivery in a place. -/
def typing (f : Desk → Desk) : State :=
  { delivering with room := delivering.room.modDesk 7 fun d => f { d with txChar := some 65 } }

theorem witness_DeskDeliveriesAreTyped :
    ((some ⟨86399, 255⟩ : Option Stamp) = some ⟨86399, 255⟩ ∧ 86399 ≤ 86399 ∧ 9999 ≤ 9999) ∧
    ((at7 ready).settings.garble ≠ 10 ∧ (∀ c ∈ ([48, 32] : List Nat), c ≠ 10) ∧ (at7 ready).txChar = none ∧
      (at7 (typing id)).txChar = some 65) ∧
    ((at7 (typing id)).clearing = false ∧ (at7 (typing id)).state ≠ .out ∧ (at7 (typing id)).pause = false ∧
      (at7 (typing id)).short = [] ∧
      (at7 (typing id)).nextOutput (slot9 (typing id)).text = some (65, .story (.text 1))) ∧
    ((at7 (typing fun d => { d with output := .withdrawal [], current := none })).output = .withdrawal [] ∧
      ({ typing id with room := (typing id).room.modPort 23 fun p =>
        { p with queue := [⟨9, .flash, 0⟩] } } : State).room.firstEligible (deskPort 7) = some ⟨9, .flash, 0⟩) ∧
    (Takes (typing id) ∧ (at7 (typing id)).state = .delivering ∧ (at7 (typing id)).current = some ⟨9, .urgent⟩ ∧
      (slot9 (typing id)).state = .filed ∧ setMembers (slot9 (typing id)).pendingSet = [deskPort 7] ∧
      (typing id).part.threshold ≤ (typing id).room.freeCount) :=
  ⟨by decide, by decide, by decide, by decide, takes_of (by decide), by decide⟩

theorem witness_CommandsWithNoEffect_events :
    (ready.room.lines[(15 : Fin 16)].receiver.state ≠ .framing ∧ ready.room.lines[(15 : Fin 16)].receiver.space = none ∧
      ready.room.lines[(15 : Fin 16)].receiver.mark = none ∧ ready.room.lines[(15 : Fin 16)].assembler.timer = none ∧
      ready.room.lines[(15 : Fin 16)].sender.startTimer = none ∧
      ready.room.lines[(15 : Fin 16)].sender.idleTimer = none ∧ ready.room.lines[(15 : Fin 16)].sender.txChar = none ∧
      ready.room.lines[(15 : Fin 16)].sender.identify.timer = none ∧
      ready.room.desks[(7 : Fin 8)].state = .out ∧ ready.room.desks[(7 : Fin 8)].txChar = none ∧
      ready.room.desks[(7 : Fin 8)].stall = none ∧ ready.room.link.rx ≠ .discard ∧
      ready.room.link.resetting = none) ∧
    ({ ready.time with settled := true } : Time).settled = true := by decide

end Sys2Proof.Tests
end

section
/-! PROOFS. The encoder's look-up (R11), and the reverse map and IDENT position that a copy brings (R10, R12). -/

namespace Sys2Proof.LineCode

open Sys2Proof.Machine

/-! ## The encoder's look-up -/

section Find

variable {m : ReverseMap} {v p q : Nat}

theorem find_of_letters_only (c : SendCase) (a : m.letters.getD (upper v) none = some p)
    (b : m.figures.getD (upper v) none = none) : m.find c v = some (.letters, p) := by
  simp only [ReverseMap.find, a, b]

theorem find_of_figures_only (c : SendCase) (a : m.letters.getD (upper v) none = none)
    (b : m.figures.getD (upper v) none = some q) : m.find c v = some (.figures, q) := by
  simp only [ReverseMap.find, a, b]

theorem find_of_both (c : SendCase) (a : m.letters.getD (upper v) none = some p)
    (b : m.figures.getD (upper v) none = some q) :
    m.find c v = if c = .figures then some (.figures, q) else some (.letters, p) := by
  simp only [ReverseMap.find, a, b]

theorem find_of_unmapped (c : SendCase) (a : m.letters.getD (upper v) none = none)
    (b : m.figures.getD (upper v) none = none) : m.find c v = none := by
  simp only [ReverseMap.find, a, b]

end Find

/-! ## The position of an entry in a half -/

theorem tableCodes_eq_filter_range : tableCodes = (List.range 32).filter fun c => !isFunctionCode c := by decide

/-- A table code of a half whose entry is the one given. -/
def HasAt (h : Half) (e : Entry) (c : Fin 32) : Prop := isFunctionCode c.val = false ∧ h[c] = some e

theorem not_hasAt_iff {h : Half} {e : Entry} {c : Fin 32} :
    ¬ HasAt h e c ↔ isFunctionCode c.val = true ∨ h[c] ≠ some e := by
  rw [HasAt, not_and_or, Bool.not_eq_false]

/-- `HasAt` as the Boolean test of a search over the codes 0–31. -/
def isPositionOf (h : Half) (e : Entry) (c : Nat) : Bool := !isFunctionCode c && h[Fin.ofNat 32 c] == some e

theorem isPositionOf_iff (h : Half) (e : Entry) (c : Fin 32) : isPositionOf h e c.val = true ↔ HasAt h e c := by
  simp [isPositionOf, HasAt]

theorem position_eq_find_range (h : Half) (e : Entry) : h.position e = (List.range 32).find? (isPositionOf h e) := by
  rw [Half.position, tableCodes_eq_filter_range, List.find?_filter]
  simp only [Bool.decide_and, Bool.decide_eq_true]
  rfl

/-- The position is the lowest code that has the entry (R10, R12). -/
theorem position_eq_some_iff (h : Half) (e : Entry) (c : Fin 32) :
    h.position e = some c.val ↔ HasAt h e c ∧ ∀ d : Fin 32, d < c → ¬ HasAt h e d := by
  rw [position_eq_find_range, List.find?_range_eq_some, isPositionOf_iff]
  have below : (∀ j < c.val, (!isPositionOf h e j) = true) ↔ ∀ d : Fin 32, d < c → ¬ HasAt h e d := by
    simp only [← isPositionOf_iff, Bool.not_eq_true, Bool.not_eq_eq_eq_not, Bool.not_true]
    exact ⟨fun low d lt => low d.val lt, fun low j lt => low ⟨j, lt.trans c.isLt⟩ lt⟩
  rw [below, and_iff_right (List.mem_range.mpr c.isLt)]

theorem position_eq_none_iff (h : Half) (e : Entry) : h.position e = none ↔ ∀ c : Fin 32, ¬ HasAt h e c := by
  simp only [position_eq_find_range, List.find?_range_eq_none, ← isPositionOf_iff, Fin.forall_iff, Bool.not_eq_true,
    Bool.not_eq_eq_eq_not, Bool.not_true]

/-! ## The reverse map of a half -/

/-- No value above 127 has an office entry, so the map's 128 places leave none out. -/
theorem reverse_getD (h : Half) (v : Nat) : h.reverse.getD v none = (officeEntry v).bind h.position := by
  by_cases small : v < 128
  · simp [Half.reverse, small]
  · have beyond : officeEntry v = none := by
      rw [officeEntry, if_neg (by omega), if_neg (by omega)]
    simp [Half.reverse, small, beyond]

/-- A table code of a half whose entry carries an office value to the line (R10). -/
def Carries (h : Half) (v : Nat) (c : Fin 32) : Prop :=
  isFunctionCode c.val = false ∧ ((v = 7 ∧ h[c] = some .bell) ∨ (33 ≤ v ∧ v ≤ 126 ∧ h[c] = some (.print v)))

theorem carries_iff_of_officeEntry_eq_some {v : Nat} {e : Entry} (office : officeEntry v = some e) (h : Half)
    (c : Fin 32) : Carries h v c ↔ HasAt h e c := by
  rw [officeEntry] at office
  split at office
  case isTrue bell =>
    obtain rfl := Option.some.inj office
    simp [Carries, HasAt, bell]
  case isFalse other =>
    split at office
    case isTrue printed =>
      obtain rfl := Option.some.inj office
      simp [Carries, HasAt, other, printed]
    case isFalse => cases office

theorem not_carries_of_officeEntry_eq_none {v : Nat} (office : officeEntry v = none) (h : Half) (c : Fin 32) :
    ¬ Carries h v c := by
  rintro ⟨-, ⟨rfl, -⟩ | ⟨low, high, -⟩⟩
  · cases office
  · rw [officeEntry, if_neg (by omega), if_pos ⟨low, high⟩] at office
    cases office

theorem reverse_getD_eq_none {h : Half} {v : Nat} (none_carries : ∀ c : Fin 32, ¬ Carries h v c) :
    h.reverse.getD v none = none := by
  rw [reverse_getD]
  cases office : officeEntry v with
  | none => rfl
  | some e =>
    simp only [carries_iff_of_officeEntry_eq_some office] at none_carries
    exact (position_eq_none_iff h e).mpr none_carries

theorem reverse_getD_eq_some {h : Half} {v : Nat} {c : Fin 32} (carries : Carries h v c)
    (lowest : ∀ d : Fin 32, d < c → ¬ Carries h v d) : h.reverse.getD v none = some c.val := by
  rw [reverse_getD]
  cases office : officeEntry v with
  | none => exact absurd carries (not_carries_of_officeEntry_eq_none office h c)
  | some e =>
    simp only [carries_iff_of_officeEntry_eq_some office] at carries lowest
    exact (position_eq_some_iff h e c).mpr ⟨carries, lowest⟩

/-! ## The copy a sender takes -/

section TakeCopy

variable (y : Sender) (templates : Vector Table 4)

@[simp] theorem takeCopy_copy : (y.takeCopy templates).side.copy = templates[y.side.source] := rfl

@[simp] theorem takeCopy_map : (y.takeCopy templates).map = templates[y.side.source].reverseMap := rfl

@[simp] theorem takeCopy_identPos :
    (y.takeCopy templates).identPos = templates[y.side.source].identPosition := rfl

end TakeCopy

/-- Settles O10: the look-up by the four cases of the two positions, the map and the IDENT position by
`position_eq_some_iff` on the halves of the copy taken. -/
theorem reverseMapAndLookUp : Obligations.ReverseMapAndLookUp := by
  unfold Obligations.ReverseMapAndLookUp
  refine ⟨fun m c v => ⟨fun p a b => find_of_letters_only c a b, fun q a b => find_of_figures_only c a b,
    fun p q a b => ⟨find_of_both .letters a b, find_of_both .figures a b, find_of_both .unknown a b⟩,
    find_of_unmapped c⟩, fun y templates => ?_⟩
  dsimp only
  rw [takeCopy_map, takeCopy_identPos, Table.reverseMap, Table.identPosition]
  refine ⟨takeCopy_copy y templates, fun v => ⟨reverse_getD_eq_none, fun c => reverse_getD_eq_some⟩,
    fun v => ⟨reverse_getD_eq_none, fun c => reverse_getD_eq_some⟩, fun absent => ?_, fun c code ident lowest => ?_⟩
  · exact (position_eq_none_iff _ _).mpr fun c => not_hasAt_iff.mpr (absent c)
  · exact (position_eq_some_iff _ _ c).mpr ⟨⟨code, ident⟩, fun d lt => not_hasAt_iff.mpr (lowest d lt)⟩

end Sys2Proof.LineCode
end

section
/-! PROOFS. The routing look-up (R101). -/

namespace Sys2Proof.Routing

open Sys2Proof.Machine

/-! ## A routing entry against a category of two letters -/

section Accepts

variable {e : Route} {a b : Nat}

theorem patternMatches_iff (p c : Nat) : patternMatches p c = true ↔ p = 42 ∨ p = c := by simp [patternMatches]

theorem accepts_pair_iff :
    e.accepts [a, b] = true ↔ (e.first = 42 ∨ e.first = a) ∧ (e.second = 42 ∨ e.second = b) := by
  simp [Route.accepts, patternMatches_iff]

theorem not_accepts_pair_iff :
    ¬ e.accepts [a, b] = true ↔ (e.first ≠ 42 ∧ e.first ≠ a) ∨ (e.second ≠ 42 ∧ e.second ≠ b) := by
  rw [accepts_pair_iff, not_and_or, not_or, not_or]

end Accepts

/-! ## The look-up -/

section LookUp

variable {p : Part} {h : Header}

theorem route_unheaded : p.route none = p.defaultSet := rfl

theorem route_eq_of_category_eq {g : Header} (same : h.category = g.category) :
    p.route (some h) = p.route (some g) := by
  simp only [Part.route, same]

/-- The search stops at entry `i`, since no used entry below it accepts the category. -/
theorem route_of_first_match {i : Fin 48} {e : Route} (used : p.routes[i] = some e)
    (accepts : e.accepts h.category = true)
    (below : ∀ (j : Fin 48) (f : Route), j < i → p.routes[j] = some f → ¬ f.accepts h.category = true) :
    p.route (some h) = e.dest := by
  have found : (p.routes.toList.find? fun x => x.any fun x => x.accepts h.category) = some (some e) := by
    rw [List.find?_eq_some_iff_getElem]
    refine ⟨accepts, i.val, by simp, by simpa using used, fun j lt => ?_⟩
    rw [Bool.not_eq_true', ← Bool.not_eq_true, Option.any_eq_true]
    rintro ⟨f, at_j, f_accepts⟩
    exact below ⟨j, lt.trans i.isLt⟩ f lt (by simpa using at_j) f_accepts
  simp only [Part.route, found]

theorem route_of_no_match
    (none_accepts : ∀ (j : Fin 48) (f : Route), p.routes[j] = some f → ¬ f.accepts h.category = true) :
    p.route (some h) = p.defaultSet := by
  have not_found : (p.routes.toList.find? fun x => x.any fun x => x.accepts h.category) = none := by
    rw [List.find?_eq_none]
    intro x mem any
    obtain ⟨f, rfl, f_accepts⟩ := (Option.any_eq_true _ _).mp any
    obtain ⟨j, lt, at_j⟩ := Vector.getElem_of_mem (Vector.mem_toList_iff.mp mem)
    exact none_accepts ⟨j, lt⟩ f at_j f_accepts
  simp only [Part.route, not_found]

end LookUp

/-- Settles O7: the look-up's lemmas, with acceptance of the category `[a, b]` written out position by position. -/
theorem routingTakesFirstMatch : Obligations.RoutingTakesFirstMatch := by
  unfold Obligations.RoutingTakesFirstMatch
  refine fun p => ⟨route_unheaded, fun h a b i e category used first second below => ?_,
    fun h a b category none_match => ?_, fun h g same => route_eq_of_category_eq same⟩
  · refine route_of_first_match used ?_ fun j f lt used_j => ?_ <;> rw [category]
    · exact accepts_pair_iff.mpr ⟨first, second⟩
    · exact not_accepts_pair_iff.mpr (below j f lt used_j)
  · refine route_of_no_match fun j f used => ?_
    rw [category]
    exact not_accepts_pair_iff.mpr (none_match j f used)

end Sys2Proof.Routing
end
